-- ==== Sys2Proof/Word.lean ====
section
/-! DEFINITION. The widths of the block's values (00_scope.md R4; 10_state.md R12, R14, R17; 30_encoding.md R52-R59). Bit 0 is
the least significant bit of every value and every value is unsigned (R5). -/

namespace Sys2Proof

/-- `state[3:0]`, a state index in binary (R12, R50). -/
abbrev StateCode := BitVec 4

/-- `cnt[9:0]`, the ticks the current dwell still waits for (R14), and a dwell field (R59). -/
abbrev Count := BitVec 10

/-- `sample[2:0]`, the bits P, N, E (R52). -/
abbrev Sample := BitVec 3

/-- `road[5:0]` (R53). -/
abbrev RoadCode := BitVec 6

/-- `ped[3:0]` (R55). -/
abbrev PedCode := BitVec 4

/-- A ROM address, `state[3:0], sample[2:0]` (R57). -/
abbrev RomAddr := BitVec 7

/-- A ROM word, a next-state index (R58). -/
abbrev RomWord := BitVec 4

/-- The 5-bit word `rst, tick, sensors[2:0]` of a clock-view program line (R63). -/
abbrev EdgeWord := BitVec 5

end Sys2Proof
end

