-- ==== Sys2Proof/Config.lean ====
section
/-! DEFINITION. What is fixed for one build of the block: the parameters of R4, the shape of the constant tables (R15, R16;
their values stand in Machine/Tables.lean), and the values the spec leaves open, as constants with no body. -/

namespace Sys2Proof

/-- One state's row of the constant tables: `ROAD[s]`, `PED[s]`, `DWELL[s]` (R16) and `next[0..7]` (R15). -/
structure StateRow where
  road : RoadCode
  ped : PedCode
  dwell : Count
  next : List RomWord
  deriving DecidableEq, Repr

/-- `N_STATES` (R4). -/
def Config.nStates : Nat := 9

/-- `DWELL_MS`, in ticks (R4, R89). -/
def Config.dwellTicks : Nat := 600

/-- Clock edges per tick period beyond the first: any number.  `CLK_HZ` is the OPEN parameter of R4 (log entry 14). -/
opaque Config.extraEdgesPerTick : Nat

/-- `CLK_HZ/1000`, a whole number of edges per tick, at least one (D2). -/
def Config.edgesPerTick : Nat := Config.extraEdgesPerTick + 1

/-- `CLK_HZ` (R4): at least 1000. -/
def Config.clkHz : Nat := 1000 * Config.edgesPerTick

/-- What the environment drives at an edge no program line speaks of, `rst, tick, sensors`: its free choice (R75, D18; log
entry 1).  The argument is the number of lines read before. -/
opaque Config.freeInputs : Nat → EdgeWord

/-- The sample captured from an unstable `sensors` input: any of the 8 values (R124; log entry 8). -/
opaque Config.freeSample : Nat → Sample

/-- `road` before the first reset edge: any value (R121; log entry 5). -/
opaque Config.freeRoad : Nat → RoadCode

/-- `ped` before the first reset edge: any value (R121; log entry 5). -/
opaque Config.freePed : Nat → PedCode

/-- The ROM words at 0x48..0x7F: the implementer's choice (R32; log entry 9). -/
opaque Config.unusedRomWord : RomAddr → RomWord

/-- What the flip-flops of `state` power up as: no value the spec gives (R21; log entry 6). -/
opaque Config.powerOnState : StateCode

/-- What the flip-flops of `cnt` power up as: no value the spec gives (R21; log entry 6). -/
opaque Config.powerOnCnt : Count

end Sys2Proof
end

