-- ==== Sys2Proof/Syntax.lean ====
section
/-! DEFINITION. What the block decodes: the words of the opcode table (`Code`), the lines a program of the environment is
made of (`Line`), and one constructor per row of spec/opcode_table.json (`Instr`). -/

namespace Sys2Proof

/-- The four formats of the opcode table (30_encoding.md, opening). -/
inductive Format where
  | control
  | combinational
  | stateCode
  | romWord
  deriving DecidableEq, Repr

/-- A word of the opcode table with its format: every decode of the block is of fixed width (R62). -/
inductive Code where
  /-- The operation select `rst, tick, last`, bits 2, 1, 0 (R60). -/
  | control (w : BitVec 3)
  /-- The row OUTPUT, which no bits select (R60, R70). -/
  | combinational (w : BitVec 3)
  /-- The state code `state[3:0]` (R50, R51). -/
  | stateCode (w : StateCode)
  /-- The ROM address `state[3:0], sample[2:0]` (R57). -/
  | romWord (w : RomAddr)
  deriving DecidableEq, Repr

/-- One line of the program the environment drives (R63): `edge` in the clock view, `reset` and `sample` in the dwell view.
`sensors = none` is an input that is not stable at that edge (R124).  The lines `word` and `output` are the model's own
(log entry 3): the transition edge of the running dwell fetched at the ROM, and a clock cycle looked at with no edge. -/
inductive Line where
  | edge (rst tick : Bool) (sensors : Option Sample)
  | reset
  | sample (i : Sample)
  | word (i : Sample)
  | output
  deriving DecidableEq, Repr

/-- One constructor per row of spec/opcode_table.json, in the table's order.  The rows ILLEGAL_STATE with don't-care bits
carry the state code they were decoded from. -/
inductive Instr where
  | reset
  | hold
  | dwellCount
  | sampleTransition
  | output
  | goWest
  | waitWest
  | goSouth
  | waitSouth
  | goPed
  | flashPed1
  | flashPed2
  | flashPed3
  | flashPed4
  | illegalState1001
  | illegalState101x (code : StateCode)
  | illegalState11xx (code : StateCode)
  | goWestS0
  | goWestS1
  | goWestS2
  | goWestS3
  | goWestS4
  | goWestS5
  | goWestS6
  | goWestS7
  | waitWestS0
  | waitWestS1
  | waitWestS2
  | waitWestS3
  | waitWestS4
  | waitWestS5
  | waitWestS6
  | waitWestS7
  | goSouthS0
  | goSouthS1
  | goSouthS2
  | goSouthS3
  | goSouthS4
  | goSouthS5
  | goSouthS6
  | goSouthS7
  | waitSouthS0
  | waitSouthS1
  | waitSouthS2
  | waitSouthS3
  | waitSouthS4
  | waitSouthS5
  | waitSouthS6
  | waitSouthS7
  | goPedS0
  | goPedS1
  | goPedS2
  | goPedS3
  | goPedS4
  | goPedS5
  | goPedS6
  | goPedS7
  | flashPed1S0
  | flashPed1S1
  | flashPed1S2
  | flashPed1S3
  | flashPed1S4
  | flashPed1S5
  | flashPed1S6
  | flashPed1S7
  | flashPed2S0
  | flashPed2S1
  | flashPed2S2
  | flashPed2S3
  | flashPed2S4
  | flashPed2S5
  | flashPed2S6
  | flashPed2S7
  | flashPed3S0
  | flashPed3S1
  | flashPed3S2
  | flashPed3S3
  | flashPed3S4
  | flashPed3S5
  | flashPed3S6
  | flashPed3S7
  | flashPed4S0
  | flashPed4S1
  | flashPed4S2
  | flashPed4S3
  | flashPed4S4
  | flashPed4S5
  | flashPed4S6
  | flashPed4S7
  deriving DecidableEq, Repr

end Sys2Proof
end

