-- ==== Sys2Proof/Machine/State.lean ====
section
/-! DEFINITION. Why a step stops, the machine's state as plain data, the state after a reset edge and the state at power-on
(10_state.md R10-R21; 60_exceptions.md R101). -/

namespace Sys2Proof.Machine

/-- The model's three fault reasons (R101).  None is an exception of the chip and none is reachable from a reset edge. -/
inductive Fault where
  /-- A step without reset before the first reset edge since power-on (R21).  Raised by every meaning but RESET and OUTPUT.
  Safe: the registers hold no value there. -/
  | noReset
  /-- `state` holds one of the codes 9..15 (R51).  Raised by every meaning but RESET; records the code.  Safe: the chip goes on
  in a way the spec gives no meaning to. -/
  | illegalState (code : StateCode)
  /-- `cnt` holds 0 or 601..1023 (R14).  Raised by every meaning but RESET, OUTPUT and the illegal state codes; records the
  value.  Safe, as above. -/
  | illegalCount (value : Count)
  deriving DecidableEq, Repr

/-- Why an instruction is given no meaning. -/
inductive Refusal where
  /-- Raised by an arm of `exec` whose instruction has no meaning yet; no arm is such.  Safe. -/
  | notModelled (mnemonic : String)
  deriving DecidableEq, Repr

/-- The state: the block's two registers, the values on its ports, and what the environment will drive. -/
structure State where
  /-- The state register (R12). -/
  state : StateCode
  /-- The dwell counter (R14). -/
  cnt : Count
  /-- The model-side flag of R75: a reset edge has occurred since power-on (R21). -/
  init : Bool
  /-- The value on the output port `road` in the clock cycle after the last edge (R17, R70). -/
  road : RoadCode
  /-- The value on the output port `ped` in the clock cycle after the last edge (R17, R70). -/
  ped : PedCode
  /-- The value on the input port `rst` at the current edge (R17). -/
  rst : Bool
  /-- The value on the input port `tick` at the current edge (R17). -/
  tick : Bool
  /-- The value on the input port `sensors` at the current edge, none where it is not stable there (R17, R124). -/
  sensors : Option Sample
  /-- The program lines the environment has still to drive, the next one first (R63).  Where the list is empty the inputs are
  free (log entry 1). -/
  pending : List Line
  /-- The model's own counter of lines read: the index of the free values (log entry 7). -/
  edge : Nat
  deriving DecidableEq, Repr

/-- The outcome of a meaning. -/
abbrev Result := Host.Outcome State Fault Refusal

/-- The machine right after a reset edge (R20): GoWest, a full dwell, and the outputs of GoWest.  No line is placed; the values
of the input ports and of the counter are the model's (log entry 7). -/
def State.reset : State :=
  { state := 0#4, cnt := 600#10, init := true, road := 0x0C#6, ped := 0x02#4,
    rst := true, tick := false, sensors := none, pending := [], edge := 0 }

/-- The machine at power-on, before the first reset edge (R21, R121): registers and outputs hold free
values (log entries 5 and 6).  The spec gives the input ports no value before any edge: that `rst` and `tick` are false, `sensors`
not stable, the program empty and the counter 0 is the model's choice (DESIGN CHOICE, log entry 17). -/
def State.powerOn : State :=
  { state := Config.powerOnState, cnt := Config.powerOnCnt, init := false, road := Config.freeRoad 0, ped := Config.freePed 0,
    rst := false, tick := false, sensors := none, pending := [], edge := 0 }

end Sys2Proof.Machine
end

