-- ==== Sys2Proof/Machine/Flags.lean ====
section
/-! DEFINITION. The block has no flags (R11). What it computes in their place are the unsigned comparisons of R78 and the
operation select of R60. -/

namespace Sys2Proof.Machine

/-- `state > 8` (R78): an illegal state code (R51). -/
def stateIllegal (c : StateCode) : Bool := decide (8#4 < c)

/-- `cnt == 0` or `cnt > 600` (R78): an illegal count (R14). -/
def countIllegal (v : Count) : Bool := v == 0#10 || decide (600#10 < v)

/-- `last = (cnt == 1)` (R60). -/
def lastTick (s : State) : Bool := s.cnt == 1#10

/-- The operation select `rst, tick, last`, bits 2, 1, 0 (R60). -/
def controlSelect (s : State) : BitVec 3 :=
  BitVec.ofBool s.rst ++ BitVec.ofBool s.tick ++ BitVec.ofBool (lastTick s)

end Sys2Proof.Machine
end

