-- ==== Sys2Proof/Machine/Tables.lean ====
section
/-! DEFINITION. The constants of the build (R15): the output table and the transition ROM, one row per state, as 41_states.md
R80-R88 give them. Where the source's prose differs from a row the row governs (90_conflicts.md C1-C5). -/

namespace Sys2Proof.Machine

/-- R80. -/
def goWestRow : StateRow := ⟨0x0C#6, 0x02#4, 600#10, [0, 0, 1, 1, 1, 1, 1, 1]⟩

/-- R81 (C1: samples 0 and 1 as the table has them). -/
def waitWestRow : StateRow := ⟨0x14#6, 0x02#4, 600#10, [2, 0, 2, 2, 4, 4, 2, 2]⟩

/-- R82 (C2: sample 6 stays). -/
def goSouthRow : StateRow := ⟨0x21#6, 0x02#4, 600#10, [2, 3, 2, 3, 3, 3, 2, 3]⟩

/-- R83 (C3: sample 7 goes to GoPed). -/
def waitSouthRow : StateRow := ⟨0x22#6, 0x02#4, 600#10, [0, 0, 2, 0, 4, 0, 4, 4]⟩

/-- R84 (C4: sample 4 stays). -/
def goPedRow : StateRow := ⟨0x24#6, 0x08#4, 600#10, [4, 5, 5, 5, 4, 5, 5, 5]⟩

/-- R85. -/
def flashPed1Row : StateRow := ⟨0x24#6, 0x02#4, 600#10, [6, 6, 6, 6, 6, 6, 6, 6]⟩

/-- R86. -/
def flashPed2Row : StateRow := ⟨0x24#6, 0x00#4, 600#10, [7, 7, 7, 7, 7, 7, 7, 7]⟩

/-- R87. -/
def flashPed3Row : StateRow := ⟨0x24#6, 0x02#4, 600#10, [8, 8, 8, 8, 8, 8, 8, 8]⟩

/-- R88 (C5: sample 6 goes to GoSouth). -/
def flashPed4Row : StateRow := ⟨0x24#6, 0x00#4, 600#10, [0, 0, 2, 0, 4, 0, 2, 0]⟩

/-- The table in index order (R13, R50). -/
def stateTable : List StateRow :=
  [goWestRow, waitWestRow, goSouthRow, waitSouthRow, goPedRow, flashPed1Row, flashPed2Row, flashPed3Row, flashPed4Row]

/-- The entry a state code selects: none for the illegal codes (R50, R51). -/
def rowAt (c : StateCode) : Option StateRow := stateTable[c.toNat]?

/-- The 72 used words of the ROM in address order, row after row (R31, R32). -/
def romImage : List RomWord := stateTable.flatMap (fun r => r.next)

end Sys2Proof.Machine
end

