-- ==== Sys2Proof/Machine/Operands.lean ====
section
/-! DEFINITION. The operands of the block: the sample and its bits (R36, R52), the ROM address and word (R31, R33, R57), and the
lamps of the output codes (R53, R55). No operand is scaled, shifted or sign-extended (R61). -/

namespace Sys2Proof.Machine

/-- The bit P of a sample: pedestrian request present (R52). -/
def pedRequest (i : Sample) : Bool := i.getLsbD 2

/-- The bit N of a sample: north/south vehicle present (R52). -/
def nsCar (i : Sample) : Bool := i.getLsbD 1

/-- The bit E of a sample: east/west vehicle present (R52). -/
def ewCar (i : Sample) : Bool := i.getLsbD 0

/-- `Sample()`: all three bits of `sensors` at this edge (R7, R36); a free draw where the input is not stable (R124). -/
def captured (s : State) : Sample :=
  match s.sensors with
  | some i => i
  | none => Config.freeSample s.edge

/-- The ROM address `state[3:0], sample[2:0]` (R31). -/
def romAddr (c : StateCode) (i : Sample) : RomAddr := c ++ i

/-- `MemRead(addr, 1)` (R33): the image at 0x00..0x47, a free word at 0x48..0x7F (R32). -/
def memRead (a : RomAddr) : RomWord :=
  match romImage[a.toNat]? with
  | some w => w
  | none => Config.unusedRomWord a

/-- EW-red, bit 5 of a road code (R53). -/
def ewRed (r : RoadCode) : Bool := r.getLsbD 5

/-- EW-yellow, bit 4 (R53). -/
def ewYellow (r : RoadCode) : Bool := r.getLsbD 4

/-- EW-green, bit 3 (R53). -/
def ewGreen (r : RoadCode) : Bool := r.getLsbD 3

/-- NS-red, bit 2 (R53). -/
def nsRed (r : RoadCode) : Bool := r.getLsbD 2

/-- NS-yellow, bit 1 (R53). -/
def nsYellow (r : RoadCode) : Bool := r.getLsbD 1

/-- NS-green, bit 0 (R53). -/
def nsGreen (r : RoadCode) : Bool := r.getLsbD 0

/-- The WALK indicator, bit 3 of a ped code (R55). -/
def walkLamp (p : PedCode) : Bool := p.getLsbD 3

/-- The DONT_WALK indicator, bit 1 of a ped code (R55). -/
def dontWalkLamp (p : PedCode) : Bool := p.getLsbD 1

end Sys2Proof.Machine
end

