-- ==== Sys2Proof/Machine/Ops.lean ====
section
/-! DEFINITION. The named operations every meaning is built from: the updates of the state, the checks of R75 in their order,
driving the outputs, the entry edge, and the transition. The block takes no exception and returns from none (R100, R104,
R105); the entry edge is its one event that loads `state`. -/

namespace Sys2Proof.Machine

/-- The outputs take new values; both change together (R37). -/
def State.setLamps (s : State) (road : RoadCode) (ped : PedCode) : State := { s with road := road, ped := ped }

/-- The registers take new values at one edge (R6). -/
def State.setRegs (s : State) (state : StateCode) (cnt : Count) : State := { s with state := state, cnt := cnt }

/-- A reset edge has occurred (R75). -/
def State.setInit (s : State) : State := { s with init := true }

/-- The environment drives the input ports at this edge (R17). -/
def State.setPorts (s : State) (rst tick : Bool) (sensors : Option Sample) : State :=
  { s with rst := rst, tick := tick, sensors := sensors }

/-- One line is taken from the program (R63). -/
def State.takeLine (s : State) : State := { s with pending := s.pending.tail, edge := s.edge + 1 }

/-- Go on with the next state, or keep the stop. -/
def andThen (r : Result) (k : State → Result) : Result :=
  match r with
  | .next s => k s
  | .fault f => .fault f
  | .refused f => .refused f

/-- `Emit(ROAD[c], PED[c])` (R70): the output table's codes of the state `c`; an illegal code selects none. -/
def emitCode (c : StateCode) (s : State) : Result :=
  match rowAt c with
  | some row => .next (s.setLamps row.road row.ped)
  | none => .fault (.illegalState c)

/-- OUTPUT: the outputs follow the held state (R70). -/
def emit (s : State) : Result := emitCode s.state s

/-- The entry edge into the state `n`: `state <- n`, `cnt <- DWELL[n]`, and the outputs are `n`'s from this edge (R14, R37,
R38, R72, R74). -/
def enter (n : StateCode) (s : State) : Result :=
  match rowAt n with
  | some row => .next ((s.setRegs n row.dwell).setLamps row.road row.ped)
  | none => .fault (.illegalState n)

/-- The checks of an edge without reset, in the order of R75 and R103; only the first that fails is reported. -/
def checked (s : State) (k : State → Result) : Result :=
  if s.init = false then .fault .noReset
  else if stateIllegal s.state then .fault (.illegalState s.state)
  else if countIllegal s.cnt then .fault (.illegalCount s.cnt)
  else k s

/-- The transition out of the state `c`: the sample at this edge selects the ROM word, and the state it names is entered
(R72). -/
def transitionFrom (c : StateCode) (s : State) : Result := enter (memRead (romAddr c (captured s))) s

/-- One dwell cycle of the state `c` (R76, R80-R88): its outputs, its dwell, then the transition at the edge that ends it.  The
ports hold the sample of that edge. -/
def dwellCycle (c : StateCode) (s : State) : Result :=
  checked s (fun s => andThen (emitCode c s) (transitionFrom c))

/-- The transition edge whose ROM word stands at the address `a` (R72). -/
def loadRomWord (a : RomAddr) (s : State) : Result := checked s (enter (memRead a))

/-- An illegal state code: no outputs and no next-state row (R51), checked after NoReset (R103). -/
def illegalCode (c : StateCode) (s : State) : Result :=
  if s.init = false then .fault .noReset else .fault (.illegalState c)

end Sys2Proof.Machine
end

