-- ==== Sys2Proof/Machine/Control.lean ====
section
/-! DEFINITION. The families control and combinational: the four operations an edge can perform and OUTPUT (40_engine.md
R70-R74). Each meaning ends with the outputs of the clock cycle after the edge (R75, last line). -/

namespace Sys2Proof.Machine

/-- R74: GoWest and a full dwell, from any held values. -/
def execReset (s : State) : Result := enter 0#4 s.setInit

/-- R73: both registers keep their values. -/
def execHold (s : State) : Result := checked s emit

/-- R71: one tick of the dwell. -/
def execDwellCount (s : State) : Result :=
  checked s (fun s => emit (s.setRegs s.state (s.cnt - 1#10)))

/-- R72: the dwell ends, the sample is read and the next state loaded. -/
def execSampleTransition (s : State) : Result := checked s (fun s => transitionFrom s.state s)

/-- R70: the outputs follow `state`; before the first reset edge they are free values (R121, log entry 5). -/
def execOutput (s : State) : Result :=
  if s.init = false then .next (s.setLamps (Config.freeRoad s.edge) (Config.freePed s.edge)) else emit s

end Sys2Proof.Machine
end

