-- ==== Sys2Proof/Machine/RomWords.lean ====
section
/-! DEFINITION. The family rom_word: the transition edge whose ROM word stands at the row's address (R32, R72, R80-R88).
The words themselves are `stateTable`'s (Machine/Tables.lean). -/

namespace Sys2Proof.Machine

/-- R80: GoWest, sample 0; the word 0x0 (GoWest). -/
def execGoWestS0 (s : State) : Result := loadRomWord 0x00#7 s

/-- R80: GoWest, sample 1; the word 0x0 (GoWest). -/
def execGoWestS1 (s : State) : Result := loadRomWord 0x01#7 s

/-- R80: GoWest, sample 2; the word 0x1 (WaitWest). -/
def execGoWestS2 (s : State) : Result := loadRomWord 0x02#7 s

/-- R80: GoWest, sample 3; the word 0x1 (WaitWest). -/
def execGoWestS3 (s : State) : Result := loadRomWord 0x03#7 s

/-- R80: GoWest, sample 4; the word 0x1 (WaitWest). -/
def execGoWestS4 (s : State) : Result := loadRomWord 0x04#7 s

/-- R80: GoWest, sample 5; the word 0x1 (WaitWest). -/
def execGoWestS5 (s : State) : Result := loadRomWord 0x05#7 s

/-- R80: GoWest, sample 6; the word 0x1 (WaitWest). -/
def execGoWestS6 (s : State) : Result := loadRomWord 0x06#7 s

/-- R80: GoWest, sample 7; the word 0x1 (WaitWest). -/
def execGoWestS7 (s : State) : Result := loadRomWord 0x07#7 s

/-- R81: WaitWest, sample 0; the word 0x2 (GoSouth). -/
def execWaitWestS0 (s : State) : Result := loadRomWord 0x08#7 s

/-- R81: WaitWest, sample 1; the word 0x0 (GoWest). -/
def execWaitWestS1 (s : State) : Result := loadRomWord 0x09#7 s

/-- R81: WaitWest, sample 2; the word 0x2 (GoSouth). -/
def execWaitWestS2 (s : State) : Result := loadRomWord 0x0A#7 s

/-- R81: WaitWest, sample 3; the word 0x2 (GoSouth). -/
def execWaitWestS3 (s : State) : Result := loadRomWord 0x0B#7 s

/-- R81: WaitWest, sample 4; the word 0x4 (GoPed). -/
def execWaitWestS4 (s : State) : Result := loadRomWord 0x0C#7 s

/-- R81: WaitWest, sample 5; the word 0x4 (GoPed). -/
def execWaitWestS5 (s : State) : Result := loadRomWord 0x0D#7 s

/-- R81: WaitWest, sample 6; the word 0x2 (GoSouth). -/
def execWaitWestS6 (s : State) : Result := loadRomWord 0x0E#7 s

/-- R81: WaitWest, sample 7; the word 0x2 (GoSouth). -/
def execWaitWestS7 (s : State) : Result := loadRomWord 0x0F#7 s

/-- R82: GoSouth, sample 0; the word 0x2 (GoSouth). -/
def execGoSouthS0 (s : State) : Result := loadRomWord 0x10#7 s

/-- R82: GoSouth, sample 1; the word 0x3 (WaitSouth). -/
def execGoSouthS1 (s : State) : Result := loadRomWord 0x11#7 s

/-- R82: GoSouth, sample 2; the word 0x2 (GoSouth). -/
def execGoSouthS2 (s : State) : Result := loadRomWord 0x12#7 s

/-- R82: GoSouth, sample 3; the word 0x3 (WaitSouth). -/
def execGoSouthS3 (s : State) : Result := loadRomWord 0x13#7 s

/-- R82: GoSouth, sample 4; the word 0x3 (WaitSouth). -/
def execGoSouthS4 (s : State) : Result := loadRomWord 0x14#7 s

/-- R82: GoSouth, sample 5; the word 0x3 (WaitSouth). -/
def execGoSouthS5 (s : State) : Result := loadRomWord 0x15#7 s

/-- R82: GoSouth, sample 6; the word 0x2 (GoSouth). -/
def execGoSouthS6 (s : State) : Result := loadRomWord 0x16#7 s

/-- R82: GoSouth, sample 7; the word 0x3 (WaitSouth). -/
def execGoSouthS7 (s : State) : Result := loadRomWord 0x17#7 s

/-- R83: WaitSouth, sample 0; the word 0x0 (GoWest). -/
def execWaitSouthS0 (s : State) : Result := loadRomWord 0x18#7 s

/-- R83: WaitSouth, sample 1; the word 0x0 (GoWest). -/
def execWaitSouthS1 (s : State) : Result := loadRomWord 0x19#7 s

/-- R83: WaitSouth, sample 2; the word 0x2 (GoSouth). -/
def execWaitSouthS2 (s : State) : Result := loadRomWord 0x1A#7 s

/-- R83: WaitSouth, sample 3; the word 0x0 (GoWest). -/
def execWaitSouthS3 (s : State) : Result := loadRomWord 0x1B#7 s

/-- R83: WaitSouth, sample 4; the word 0x4 (GoPed). -/
def execWaitSouthS4 (s : State) : Result := loadRomWord 0x1C#7 s

/-- R83: WaitSouth, sample 5; the word 0x0 (GoWest). -/
def execWaitSouthS5 (s : State) : Result := loadRomWord 0x1D#7 s

/-- R83: WaitSouth, sample 6; the word 0x4 (GoPed). -/
def execWaitSouthS6 (s : State) : Result := loadRomWord 0x1E#7 s

/-- R83: WaitSouth, sample 7; the word 0x4 (GoPed). -/
def execWaitSouthS7 (s : State) : Result := loadRomWord 0x1F#7 s

/-- R84: GoPed, sample 0; the word 0x4 (GoPed). -/
def execGoPedS0 (s : State) : Result := loadRomWord 0x20#7 s

/-- R84: GoPed, sample 1; the word 0x5 (FlashPed1). -/
def execGoPedS1 (s : State) : Result := loadRomWord 0x21#7 s

/-- R84: GoPed, sample 2; the word 0x5 (FlashPed1). -/
def execGoPedS2 (s : State) : Result := loadRomWord 0x22#7 s

/-- R84: GoPed, sample 3; the word 0x5 (FlashPed1). -/
def execGoPedS3 (s : State) : Result := loadRomWord 0x23#7 s

/-- R84: GoPed, sample 4; the word 0x4 (GoPed). -/
def execGoPedS4 (s : State) : Result := loadRomWord 0x24#7 s

/-- R84: GoPed, sample 5; the word 0x5 (FlashPed1). -/
def execGoPedS5 (s : State) : Result := loadRomWord 0x25#7 s

/-- R84: GoPed, sample 6; the word 0x5 (FlashPed1). -/
def execGoPedS6 (s : State) : Result := loadRomWord 0x26#7 s

/-- R84: GoPed, sample 7; the word 0x5 (FlashPed1). -/
def execGoPedS7 (s : State) : Result := loadRomWord 0x27#7 s

/-- R85: FlashPed1, sample 0; the word 0x6 (FlashPed2). -/
def execFlashPed1S0 (s : State) : Result := loadRomWord 0x28#7 s

/-- R85: FlashPed1, sample 1; the word 0x6 (FlashPed2). -/
def execFlashPed1S1 (s : State) : Result := loadRomWord 0x29#7 s

/-- R85: FlashPed1, sample 2; the word 0x6 (FlashPed2). -/
def execFlashPed1S2 (s : State) : Result := loadRomWord 0x2A#7 s

/-- R85: FlashPed1, sample 3; the word 0x6 (FlashPed2). -/
def execFlashPed1S3 (s : State) : Result := loadRomWord 0x2B#7 s

/-- R85: FlashPed1, sample 4; the word 0x6 (FlashPed2). -/
def execFlashPed1S4 (s : State) : Result := loadRomWord 0x2C#7 s

/-- R85: FlashPed1, sample 5; the word 0x6 (FlashPed2). -/
def execFlashPed1S5 (s : State) : Result := loadRomWord 0x2D#7 s

/-- R85: FlashPed1, sample 6; the word 0x6 (FlashPed2). -/
def execFlashPed1S6 (s : State) : Result := loadRomWord 0x2E#7 s

/-- R85: FlashPed1, sample 7; the word 0x6 (FlashPed2). -/
def execFlashPed1S7 (s : State) : Result := loadRomWord 0x2F#7 s

/-- R86: FlashPed2, sample 0; the word 0x7 (FlashPed3). -/
def execFlashPed2S0 (s : State) : Result := loadRomWord 0x30#7 s

/-- R86: FlashPed2, sample 1; the word 0x7 (FlashPed3). -/
def execFlashPed2S1 (s : State) : Result := loadRomWord 0x31#7 s

/-- R86: FlashPed2, sample 2; the word 0x7 (FlashPed3). -/
def execFlashPed2S2 (s : State) : Result := loadRomWord 0x32#7 s

/-- R86: FlashPed2, sample 3; the word 0x7 (FlashPed3). -/
def execFlashPed2S3 (s : State) : Result := loadRomWord 0x33#7 s

/-- R86: FlashPed2, sample 4; the word 0x7 (FlashPed3). -/
def execFlashPed2S4 (s : State) : Result := loadRomWord 0x34#7 s

/-- R86: FlashPed2, sample 5; the word 0x7 (FlashPed3). -/
def execFlashPed2S5 (s : State) : Result := loadRomWord 0x35#7 s

/-- R86: FlashPed2, sample 6; the word 0x7 (FlashPed3). -/
def execFlashPed2S6 (s : State) : Result := loadRomWord 0x36#7 s

/-- R86: FlashPed2, sample 7; the word 0x7 (FlashPed3). -/
def execFlashPed2S7 (s : State) : Result := loadRomWord 0x37#7 s

/-- R87: FlashPed3, sample 0; the word 0x8 (FlashPed4). -/
def execFlashPed3S0 (s : State) : Result := loadRomWord 0x38#7 s

/-- R87: FlashPed3, sample 1; the word 0x8 (FlashPed4). -/
def execFlashPed3S1 (s : State) : Result := loadRomWord 0x39#7 s

/-- R87: FlashPed3, sample 2; the word 0x8 (FlashPed4). -/
def execFlashPed3S2 (s : State) : Result := loadRomWord 0x3A#7 s

/-- R87: FlashPed3, sample 3; the word 0x8 (FlashPed4). -/
def execFlashPed3S3 (s : State) : Result := loadRomWord 0x3B#7 s

/-- R87: FlashPed3, sample 4; the word 0x8 (FlashPed4). -/
def execFlashPed3S4 (s : State) : Result := loadRomWord 0x3C#7 s

/-- R87: FlashPed3, sample 5; the word 0x8 (FlashPed4). -/
def execFlashPed3S5 (s : State) : Result := loadRomWord 0x3D#7 s

/-- R87: FlashPed3, sample 6; the word 0x8 (FlashPed4). -/
def execFlashPed3S6 (s : State) : Result := loadRomWord 0x3E#7 s

/-- R87: FlashPed3, sample 7; the word 0x8 (FlashPed4). -/
def execFlashPed3S7 (s : State) : Result := loadRomWord 0x3F#7 s

/-- R88: FlashPed4, sample 0; the word 0x0 (GoWest). -/
def execFlashPed4S0 (s : State) : Result := loadRomWord 0x40#7 s

/-- R88: FlashPed4, sample 1; the word 0x0 (GoWest). -/
def execFlashPed4S1 (s : State) : Result := loadRomWord 0x41#7 s

/-- R88: FlashPed4, sample 2; the word 0x2 (GoSouth). -/
def execFlashPed4S2 (s : State) : Result := loadRomWord 0x42#7 s

/-- R88: FlashPed4, sample 3; the word 0x0 (GoWest). -/
def execFlashPed4S3 (s : State) : Result := loadRomWord 0x43#7 s

/-- R88: FlashPed4, sample 4; the word 0x4 (GoPed). -/
def execFlashPed4S4 (s : State) : Result := loadRomWord 0x44#7 s

/-- R88: FlashPed4, sample 5; the word 0x0 (GoWest). -/
def execFlashPed4S5 (s : State) : Result := loadRomWord 0x45#7 s

/-- R88: FlashPed4, sample 6; the word 0x2 (GoSouth). -/
def execFlashPed4S6 (s : State) : Result := loadRomWord 0x46#7 s

/-- R88: FlashPed4, sample 7; the word 0x0 (GoWest). -/
def execFlashPed4S7 (s : State) : Result := loadRomWord 0x47#7 s

end Sys2Proof.Machine
end

