-- ==== Sys2Proof/Machine/States.lean ====
section
/-! DEFINITION. The family state_code: the nine states, each run for one dwell cycle (41_states.md R80-R88), and the three
rows of illegal state codes (R51). -/

namespace Sys2Proof.Machine

/-- R80: GoWest, code 0. -/
def execGoWest (s : State) : Result := dwellCycle 0#4 s

/-- R81: WaitWest, code 1. -/
def execWaitWest (s : State) : Result := dwellCycle 1#4 s

/-- R82: GoSouth, code 2. -/
def execGoSouth (s : State) : Result := dwellCycle 2#4 s

/-- R83: WaitSouth, code 3. -/
def execWaitSouth (s : State) : Result := dwellCycle 3#4 s

/-- R84: GoPed, code 4. -/
def execGoPed (s : State) : Result := dwellCycle 4#4 s

/-- R85: FlashPed1, code 5. -/
def execFlashPed1 (s : State) : Result := dwellCycle 5#4 s

/-- R86: FlashPed2, code 6. -/
def execFlashPed2 (s : State) : Result := dwellCycle 6#4 s

/-- R87: FlashPed3, code 7. -/
def execFlashPed3 (s : State) : Result := dwellCycle 7#4 s

/-- R88: FlashPed4, code 8. -/
def execFlashPed4 (s : State) : Result := dwellCycle 8#4 s

/-- R51: the illegal code 1001. -/
def execIllegalState1001 (s : State) : Result := illegalCode 0b1001#4 s

/-- R51: the illegal codes 101x. -/
def execIllegalState101x (code : StateCode) (s : State) : Result := illegalCode code s

/-- R51: the illegal codes 11xx. -/
def execIllegalState11xx (code : StateCode) (s : State) : Result := illegalCode code s

end Sys2Proof.Machine
end

