-- ==== Sys2Proof/Machine/Dispatch.lean ====
section
/-! DEFINITION. The meaning of every instruction: one arm per constructor of `Instr`, each one call. -/

namespace Sys2Proof.Machine

def exec (i : Instr) (s : State) : Host.Outcome State Fault Refusal :=
  match i with
  | .reset => Sys2Proof.Machine.execReset s
  | .hold => Sys2Proof.Machine.execHold s
  | .dwellCount => Sys2Proof.Machine.execDwellCount s
  | .sampleTransition => Sys2Proof.Machine.execSampleTransition s
  | .output => Sys2Proof.Machine.execOutput s
  | .goWest => Sys2Proof.Machine.execGoWest s
  | .waitWest => Sys2Proof.Machine.execWaitWest s
  | .goSouth => Sys2Proof.Machine.execGoSouth s
  | .waitSouth => Sys2Proof.Machine.execWaitSouth s
  | .goPed => Sys2Proof.Machine.execGoPed s
  | .flashPed1 => Sys2Proof.Machine.execFlashPed1 s
  | .flashPed2 => Sys2Proof.Machine.execFlashPed2 s
  | .flashPed3 => Sys2Proof.Machine.execFlashPed3 s
  | .flashPed4 => Sys2Proof.Machine.execFlashPed4 s
  | .illegalState1001 => Sys2Proof.Machine.execIllegalState1001 s
  | .illegalState101x code => Sys2Proof.Machine.execIllegalState101x code s
  | .illegalState11xx code => Sys2Proof.Machine.execIllegalState11xx code s
  | .goWestS0 => Sys2Proof.Machine.execGoWestS0 s
  | .goWestS1 => Sys2Proof.Machine.execGoWestS1 s
  | .goWestS2 => Sys2Proof.Machine.execGoWestS2 s
  | .goWestS3 => Sys2Proof.Machine.execGoWestS3 s
  | .goWestS4 => Sys2Proof.Machine.execGoWestS4 s
  | .goWestS5 => Sys2Proof.Machine.execGoWestS5 s
  | .goWestS6 => Sys2Proof.Machine.execGoWestS6 s
  | .goWestS7 => Sys2Proof.Machine.execGoWestS7 s
  | .waitWestS0 => Sys2Proof.Machine.execWaitWestS0 s
  | .waitWestS1 => Sys2Proof.Machine.execWaitWestS1 s
  | .waitWestS2 => Sys2Proof.Machine.execWaitWestS2 s
  | .waitWestS3 => Sys2Proof.Machine.execWaitWestS3 s
  | .waitWestS4 => Sys2Proof.Machine.execWaitWestS4 s
  | .waitWestS5 => Sys2Proof.Machine.execWaitWestS5 s
  | .waitWestS6 => Sys2Proof.Machine.execWaitWestS6 s
  | .waitWestS7 => Sys2Proof.Machine.execWaitWestS7 s
  | .goSouthS0 => Sys2Proof.Machine.execGoSouthS0 s
  | .goSouthS1 => Sys2Proof.Machine.execGoSouthS1 s
  | .goSouthS2 => Sys2Proof.Machine.execGoSouthS2 s
  | .goSouthS3 => Sys2Proof.Machine.execGoSouthS3 s
  | .goSouthS4 => Sys2Proof.Machine.execGoSouthS4 s
  | .goSouthS5 => Sys2Proof.Machine.execGoSouthS5 s
  | .goSouthS6 => Sys2Proof.Machine.execGoSouthS6 s
  | .goSouthS7 => Sys2Proof.Machine.execGoSouthS7 s
  | .waitSouthS0 => Sys2Proof.Machine.execWaitSouthS0 s
  | .waitSouthS1 => Sys2Proof.Machine.execWaitSouthS1 s
  | .waitSouthS2 => Sys2Proof.Machine.execWaitSouthS2 s
  | .waitSouthS3 => Sys2Proof.Machine.execWaitSouthS3 s
  | .waitSouthS4 => Sys2Proof.Machine.execWaitSouthS4 s
  | .waitSouthS5 => Sys2Proof.Machine.execWaitSouthS5 s
  | .waitSouthS6 => Sys2Proof.Machine.execWaitSouthS6 s
  | .waitSouthS7 => Sys2Proof.Machine.execWaitSouthS7 s
  | .goPedS0 => Sys2Proof.Machine.execGoPedS0 s
  | .goPedS1 => Sys2Proof.Machine.execGoPedS1 s
  | .goPedS2 => Sys2Proof.Machine.execGoPedS2 s
  | .goPedS3 => Sys2Proof.Machine.execGoPedS3 s
  | .goPedS4 => Sys2Proof.Machine.execGoPedS4 s
  | .goPedS5 => Sys2Proof.Machine.execGoPedS5 s
  | .goPedS6 => Sys2Proof.Machine.execGoPedS6 s
  | .goPedS7 => Sys2Proof.Machine.execGoPedS7 s
  | .flashPed1S0 => Sys2Proof.Machine.execFlashPed1S0 s
  | .flashPed1S1 => Sys2Proof.Machine.execFlashPed1S1 s
  | .flashPed1S2 => Sys2Proof.Machine.execFlashPed1S2 s
  | .flashPed1S3 => Sys2Proof.Machine.execFlashPed1S3 s
  | .flashPed1S4 => Sys2Proof.Machine.execFlashPed1S4 s
  | .flashPed1S5 => Sys2Proof.Machine.execFlashPed1S5 s
  | .flashPed1S6 => Sys2Proof.Machine.execFlashPed1S6 s
  | .flashPed1S7 => Sys2Proof.Machine.execFlashPed1S7 s
  | .flashPed2S0 => Sys2Proof.Machine.execFlashPed2S0 s
  | .flashPed2S1 => Sys2Proof.Machine.execFlashPed2S1 s
  | .flashPed2S2 => Sys2Proof.Machine.execFlashPed2S2 s
  | .flashPed2S3 => Sys2Proof.Machine.execFlashPed2S3 s
  | .flashPed2S4 => Sys2Proof.Machine.execFlashPed2S4 s
  | .flashPed2S5 => Sys2Proof.Machine.execFlashPed2S5 s
  | .flashPed2S6 => Sys2Proof.Machine.execFlashPed2S6 s
  | .flashPed2S7 => Sys2Proof.Machine.execFlashPed2S7 s
  | .flashPed3S0 => Sys2Proof.Machine.execFlashPed3S0 s
  | .flashPed3S1 => Sys2Proof.Machine.execFlashPed3S1 s
  | .flashPed3S2 => Sys2Proof.Machine.execFlashPed3S2 s
  | .flashPed3S3 => Sys2Proof.Machine.execFlashPed3S3 s
  | .flashPed3S4 => Sys2Proof.Machine.execFlashPed3S4 s
  | .flashPed3S5 => Sys2Proof.Machine.execFlashPed3S5 s
  | .flashPed3S6 => Sys2Proof.Machine.execFlashPed3S6 s
  | .flashPed3S7 => Sys2Proof.Machine.execFlashPed3S7 s
  | .flashPed4S0 => Sys2Proof.Machine.execFlashPed4S0 s
  | .flashPed4S1 => Sys2Proof.Machine.execFlashPed4S1 s
  | .flashPed4S2 => Sys2Proof.Machine.execFlashPed4S2 s
  | .flashPed4S3 => Sys2Proof.Machine.execFlashPed4S3 s
  | .flashPed4S4 => Sys2Proof.Machine.execFlashPed4S4 s
  | .flashPed4S5 => Sys2Proof.Machine.execFlashPed4S5 s
  | .flashPed4S6 => Sys2Proof.Machine.execFlashPed4S6 s
  | .flashPed4S7 => Sys2Proof.Machine.execFlashPed4S7 s

end Sys2Proof.Machine
end

