-- ==== Sys2Proof/WellFormed.lean ====
section
/-! DEFINITION. Well-formed instructions (the state code an ILLEGAL_STATE row carries is one of that row's codes, R51), and the
build-time check of the constant tables (R34, R122 step 1). -/

namespace Sys2Proof

/-- The codes carried by the rows 101x and 11xx meet those masks (R51). -/
def Instr.wf : Instr → Bool
  | .illegalState101x code => code &&& 0b1110#4 == 0b1010#4
  | .illegalState11xx code => code &&& 0b1100#4 == 0b1100#4
  | .reset | .hold | .dwellCount | .sampleTransition | .output | .goWest | .waitWest | .goSouth | .waitSouth | .goPed
  | .flashPed1 | .flashPed2 | .flashPed3 | .flashPed4 | .illegalState1001 | .goWestS0 | .goWestS1 | .goWestS2
  | .goWestS3 | .goWestS4 | .goWestS5 | .goWestS6 | .goWestS7 | .waitWestS0 | .waitWestS1 | .waitWestS2 | .waitWestS3
  | .waitWestS4 | .waitWestS5 | .waitWestS6 | .waitWestS7 | .goSouthS0 | .goSouthS1 | .goSouthS2 | .goSouthS3
  | .goSouthS4 | .goSouthS5 | .goSouthS6 | .goSouthS7 | .waitSouthS0 | .waitSouthS1 | .waitSouthS2 | .waitSouthS3
  | .waitSouthS4 | .waitSouthS5 | .waitSouthS6 | .waitSouthS7 | .goPedS0 | .goPedS1 | .goPedS2 | .goPedS3 | .goPedS4
  | .goPedS5 | .goPedS6 | .goPedS7 | .flashPed1S0 | .flashPed1S1 | .flashPed1S2 | .flashPed1S3 | .flashPed1S4
  | .flashPed1S5 | .flashPed1S6 | .flashPed1S7 | .flashPed2S0 | .flashPed2S1 | .flashPed2S2 | .flashPed2S3
  | .flashPed2S4 | .flashPed2S5 | .flashPed2S6 | .flashPed2S7 | .flashPed3S0 | .flashPed3S1 | .flashPed3S2
  | .flashPed3S3 | .flashPed3S4 | .flashPed3S5 | .flashPed3S6 | .flashPed3S7 | .flashPed4S0 | .flashPed4S1
  | .flashPed4S2 | .flashPed4S3 | .flashPed4S4 | .flashPed4S5 | .flashPed4S6 | .flashPed4S7 => true

/-- A next-state row: 8 words, each in 0..8 (R34, R58). -/
def nextRowWf (next : List RomWord) : Bool :=
  next.length == 8 && next.all (fun n => decide (n ≤ 8#4))

/-- The output codes of the nine states, as R122 step 1 wants them in the output table (R80-R88, first line of each). -/
def outputCodes : List (RoadCode × PedCode) :=
  [(0x0C#6, 0x02#4), (0x14#6, 0x02#4), (0x21#6, 0x02#4), (0x22#6, 0x02#4), (0x24#6, 0x08#4),
   (0x24#6, 0x02#4), (0x24#6, 0x00#4), (0x24#6, 0x02#4), (0x24#6, 0x00#4)]

/-- The check made when a table is built: nine states with closed next-state rows, dwell 600, and the output codes.  A table
that fails it is rejected and never runs (R34, R122). -/
def tableWf (table : List StateRow) : Bool :=
  table.length == Config.nStates &&
    (table.all (fun r => nextRowWf r.next) &&
      (table.all (fun r => r.dwell.toNat == Config.dwellTicks) &&
        table.map (fun r => (r.road, r.ped)) == outputCodes))

end Sys2Proof
end

