-- ==== Sys2Proof/Decode.lean ====
section
/-! DEFINITION. The decoder, total on every word of the four formats, the encoder, and the opcode table's rows as mask and
pattern (R50, R51, R57, R60; spec/opcode_table.json); then the encodings of program lines (R63) and the host's table word. -/

namespace Sys2Proof

/-- Why a word is no instruction. -/
inductive DecodeError where
  /-- A ROM address 0x48..0x7F, which no legal state forms (R32, R43). -/
  | unusedRomAddress (a : RomAddr)
  deriving DecidableEq, Repr

/-- The operation select, decoded in the order of R60: `rst`, then `tick`, then `last`. -/
def decodeControl (w : BitVec 3) : Instr :=
  if w.getLsbD 2 then .reset
  else if !w.getLsbD 1 then .hold
  else if !w.getLsbD 0 then .dwellCount
  else .sampleTransition

/-- The state code (R50); codes 9..15 are the rows ILLEGAL_STATE 1001, 101x and 11xx (R51). -/
def decodeState (c : StateCode) : Instr :=
  match c.toNat with
  | 0 => .goWest
  | 1 => .waitWest
  | 2 => .goSouth
  | 3 => .waitSouth
  | 4 => .goPed
  | 5 => .flashPed1
  | 6 => .flashPed2
  | 7 => .flashPed3
  | 8 => .flashPed4
  | 9 => .illegalState1001
  | 10 => .illegalState101x c
  | 11 => .illegalState101x c
  | _ => .illegalState11xx c

/-- The row of state 0, GoWest: ROM addresses 0x00..0x07 (R80). -/
def goWestWords : List Instr :=
  [.goWestS0, .goWestS1, .goWestS2, .goWestS3, .goWestS4, .goWestS5, .goWestS6, .goWestS7]

/-- The row of state 1, WaitWest: ROM addresses 0x08..0x0F (R81). -/
def waitWestWords : List Instr :=
  [.waitWestS0, .waitWestS1, .waitWestS2, .waitWestS3, .waitWestS4, .waitWestS5, .waitWestS6, .waitWestS7]

/-- The row of state 2, GoSouth: ROM addresses 0x10..0x17 (R82). -/
def goSouthWords : List Instr :=
  [.goSouthS0, .goSouthS1, .goSouthS2, .goSouthS3, .goSouthS4, .goSouthS5, .goSouthS6, .goSouthS7]

/-- The row of state 3, WaitSouth: ROM addresses 0x18..0x1F (R83). -/
def waitSouthWords : List Instr :=
  [.waitSouthS0, .waitSouthS1, .waitSouthS2, .waitSouthS3, .waitSouthS4, .waitSouthS5, .waitSouthS6, .waitSouthS7]

/-- The row of state 4, GoPed: ROM addresses 0x20..0x27 (R84). -/
def goPedWords : List Instr :=
  [.goPedS0, .goPedS1, .goPedS2, .goPedS3, .goPedS4, .goPedS5, .goPedS6, .goPedS7]

/-- The row of state 5, FlashPed1: ROM addresses 0x28..0x2F (R85). -/
def flashPed1Words : List Instr :=
  [.flashPed1S0, .flashPed1S1, .flashPed1S2, .flashPed1S3, .flashPed1S4, .flashPed1S5, .flashPed1S6, .flashPed1S7]

/-- The row of state 6, FlashPed2: ROM addresses 0x30..0x37 (R86). -/
def flashPed2Words : List Instr :=
  [.flashPed2S0, .flashPed2S1, .flashPed2S2, .flashPed2S3, .flashPed2S4, .flashPed2S5, .flashPed2S6, .flashPed2S7]

/-- The row of state 7, FlashPed3: ROM addresses 0x38..0x3F (R87). -/
def flashPed3Words : List Instr :=
  [.flashPed3S0, .flashPed3S1, .flashPed3S2, .flashPed3S3, .flashPed3S4, .flashPed3S5, .flashPed3S6, .flashPed3S7]

/-- The row of state 8, FlashPed4: ROM addresses 0x40..0x47 (R88). -/
def flashPed4Words : List Instr :=
  [.flashPed4S0, .flashPed4S1, .flashPed4S2, .flashPed4S3, .flashPed4S4, .flashPed4S5, .flashPed4S6, .flashPed4S7]

/-- The rows of format rom_word in address order (R31, R32). -/
def romInstrs : List Instr :=
  goWestWords ++ waitWestWords ++ goSouthWords ++ waitSouthWords ++ goPedWords ++
    flashPed1Words ++ flashPed2Words ++ flashPed3Words ++ flashPed4Words

/-- The ROM address (R57); addresses 0x48..0x7F are rejected by name (R43). -/
def decodeRom (a : RomAddr) : Except DecodeError Instr :=
  match romInstrs[a.toNat]? with
  | some i => .ok i
  | none => .error (.unusedRomAddress a)

/-- The decoder: every word of every format is an instruction or is rejected by name (R62). -/
def decode : Code → Except DecodeError Instr
  | .control w => .ok (decodeControl w)
  | .combinational _ => .ok .output
  | .stateCode c => .ok (decodeState c)
  | .romWord a => decodeRom a

/-- The word of an instruction, its don't-care bits zero (the column "encoding" of spec/opcode_table.json). -/
def encode : Instr → Code
  | .reset => .control 0b100#3
  | .hold => .control 0b000#3
  | .dwellCount => .control 0b010#3
  | .sampleTransition => .control 0b011#3
  | .output => .combinational 0b000#3
  | .goWest => .stateCode 0b0000#4
  | .waitWest => .stateCode 0b0001#4
  | .goSouth => .stateCode 0b0010#4
  | .waitSouth => .stateCode 0b0011#4
  | .goPed => .stateCode 0b0100#4
  | .flashPed1 => .stateCode 0b0101#4
  | .flashPed2 => .stateCode 0b0110#4
  | .flashPed3 => .stateCode 0b0111#4
  | .flashPed4 => .stateCode 0b1000#4
  | .illegalState1001 => .stateCode 0b1001#4
  | .illegalState101x code => .stateCode code
  | .illegalState11xx code => .stateCode code
  | .goWestS0 => .romWord 0b0000000#7
  | .goWestS1 => .romWord 0b0000001#7
  | .goWestS2 => .romWord 0b0000010#7
  | .goWestS3 => .romWord 0b0000011#7
  | .goWestS4 => .romWord 0b0000100#7
  | .goWestS5 => .romWord 0b0000101#7
  | .goWestS6 => .romWord 0b0000110#7
  | .goWestS7 => .romWord 0b0000111#7
  | .waitWestS0 => .romWord 0b0001000#7
  | .waitWestS1 => .romWord 0b0001001#7
  | .waitWestS2 => .romWord 0b0001010#7
  | .waitWestS3 => .romWord 0b0001011#7
  | .waitWestS4 => .romWord 0b0001100#7
  | .waitWestS5 => .romWord 0b0001101#7
  | .waitWestS6 => .romWord 0b0001110#7
  | .waitWestS7 => .romWord 0b0001111#7
  | .goSouthS0 => .romWord 0b0010000#7
  | .goSouthS1 => .romWord 0b0010001#7
  | .goSouthS2 => .romWord 0b0010010#7
  | .goSouthS3 => .romWord 0b0010011#7
  | .goSouthS4 => .romWord 0b0010100#7
  | .goSouthS5 => .romWord 0b0010101#7
  | .goSouthS6 => .romWord 0b0010110#7
  | .goSouthS7 => .romWord 0b0010111#7
  | .waitSouthS0 => .romWord 0b0011000#7
  | .waitSouthS1 => .romWord 0b0011001#7
  | .waitSouthS2 => .romWord 0b0011010#7
  | .waitSouthS3 => .romWord 0b0011011#7
  | .waitSouthS4 => .romWord 0b0011100#7
  | .waitSouthS5 => .romWord 0b0011101#7
  | .waitSouthS6 => .romWord 0b0011110#7
  | .waitSouthS7 => .romWord 0b0011111#7
  | .goPedS0 => .romWord 0b0100000#7
  | .goPedS1 => .romWord 0b0100001#7
  | .goPedS2 => .romWord 0b0100010#7
  | .goPedS3 => .romWord 0b0100011#7
  | .goPedS4 => .romWord 0b0100100#7
  | .goPedS5 => .romWord 0b0100101#7
  | .goPedS6 => .romWord 0b0100110#7
  | .goPedS7 => .romWord 0b0100111#7
  | .flashPed1S0 => .romWord 0b0101000#7
  | .flashPed1S1 => .romWord 0b0101001#7
  | .flashPed1S2 => .romWord 0b0101010#7
  | .flashPed1S3 => .romWord 0b0101011#7
  | .flashPed1S4 => .romWord 0b0101100#7
  | .flashPed1S5 => .romWord 0b0101101#7
  | .flashPed1S6 => .romWord 0b0101110#7
  | .flashPed1S7 => .romWord 0b0101111#7
  | .flashPed2S0 => .romWord 0b0110000#7
  | .flashPed2S1 => .romWord 0b0110001#7
  | .flashPed2S2 => .romWord 0b0110010#7
  | .flashPed2S3 => .romWord 0b0110011#7
  | .flashPed2S4 => .romWord 0b0110100#7
  | .flashPed2S5 => .romWord 0b0110101#7
  | .flashPed2S6 => .romWord 0b0110110#7
  | .flashPed2S7 => .romWord 0b0110111#7
  | .flashPed3S0 => .romWord 0b0111000#7
  | .flashPed3S1 => .romWord 0b0111001#7
  | .flashPed3S2 => .romWord 0b0111010#7
  | .flashPed3S3 => .romWord 0b0111011#7
  | .flashPed3S4 => .romWord 0b0111100#7
  | .flashPed3S5 => .romWord 0b0111101#7
  | .flashPed3S6 => .romWord 0b0111110#7
  | .flashPed3S7 => .romWord 0b0111111#7
  | .flashPed4S0 => .romWord 0b1000000#7
  | .flashPed4S1 => .romWord 0b1000001#7
  | .flashPed4S2 => .romWord 0b1000010#7
  | .flashPed4S3 => .romWord 0b1000011#7
  | .flashPed4S4 => .romWord 0b1000100#7
  | .flashPed4S5 => .romWord 0b1000101#7
  | .flashPed4S6 => .romWord 0b1000110#7
  | .flashPed4S7 => .romWord 0b1000111#7

/-- The format of a word. -/
def Code.format : Code → Format
  | .control _ => .control
  | .combinational _ => .combinational
  | .stateCode _ => .stateCode
  | .romWord _ => .romWord

/-- The bits of a word, zero-extended to the widest format. -/
def Code.bits : Code → BitVec 7
  | .control w => w.setWidth 7
  | .combinational w => w.setWidth 7
  | .stateCode w => w.setWidth 7
  | .romWord w => w

/-- A row of spec/opcode_table.json: its format, its mask and the bits it wants under the mask. -/
structure OpcodeRow where
  format : Format
  mask : BitVec 7
  want : BitVec 7
  deriving DecidableEq, Repr

/-- A row takes a word of its format whose bits under the mask are the wanted ones. -/
def OpcodeRow.accepts (r : OpcodeRow) (c : Code) : Bool :=
  c.format == r.format && c.bits &&& r.mask == r.want

/-- The columns "format", "match" and "mask" of spec/opcode_table.json. -/
def opcodeRow : Instr → OpcodeRow
  | .reset => ⟨.control, 0x04#7, 0x04#7⟩
  | .hold => ⟨.control, 0x06#7, 0x00#7⟩
  | .dwellCount => ⟨.control, 0x07#7, 0x02#7⟩
  | .sampleTransition => ⟨.control, 0x07#7, 0x03#7⟩
  | .output => ⟨.combinational, 0x00#7, 0x00#7⟩
  | .goWest => ⟨.stateCode, 0x0F#7, 0x00#7⟩
  | .waitWest => ⟨.stateCode, 0x0F#7, 0x01#7⟩
  | .goSouth => ⟨.stateCode, 0x0F#7, 0x02#7⟩
  | .waitSouth => ⟨.stateCode, 0x0F#7, 0x03#7⟩
  | .goPed => ⟨.stateCode, 0x0F#7, 0x04#7⟩
  | .flashPed1 => ⟨.stateCode, 0x0F#7, 0x05#7⟩
  | .flashPed2 => ⟨.stateCode, 0x0F#7, 0x06#7⟩
  | .flashPed3 => ⟨.stateCode, 0x0F#7, 0x07#7⟩
  | .flashPed4 => ⟨.stateCode, 0x0F#7, 0x08#7⟩
  | .illegalState1001 => ⟨.stateCode, 0x0F#7, 0x09#7⟩
  | .illegalState101x _ => ⟨.stateCode, 0x0E#7, 0x0A#7⟩
  | .illegalState11xx _ => ⟨.stateCode, 0x0C#7, 0x0C#7⟩
  | .goWestS0 => ⟨.romWord, 0x7F#7, 0x00#7⟩
  | .goWestS1 => ⟨.romWord, 0x7F#7, 0x01#7⟩
  | .goWestS2 => ⟨.romWord, 0x7F#7, 0x02#7⟩
  | .goWestS3 => ⟨.romWord, 0x7F#7, 0x03#7⟩
  | .goWestS4 => ⟨.romWord, 0x7F#7, 0x04#7⟩
  | .goWestS5 => ⟨.romWord, 0x7F#7, 0x05#7⟩
  | .goWestS6 => ⟨.romWord, 0x7F#7, 0x06#7⟩
  | .goWestS7 => ⟨.romWord, 0x7F#7, 0x07#7⟩
  | .waitWestS0 => ⟨.romWord, 0x7F#7, 0x08#7⟩
  | .waitWestS1 => ⟨.romWord, 0x7F#7, 0x09#7⟩
  | .waitWestS2 => ⟨.romWord, 0x7F#7, 0x0A#7⟩
  | .waitWestS3 => ⟨.romWord, 0x7F#7, 0x0B#7⟩
  | .waitWestS4 => ⟨.romWord, 0x7F#7, 0x0C#7⟩
  | .waitWestS5 => ⟨.romWord, 0x7F#7, 0x0D#7⟩
  | .waitWestS6 => ⟨.romWord, 0x7F#7, 0x0E#7⟩
  | .waitWestS7 => ⟨.romWord, 0x7F#7, 0x0F#7⟩
  | .goSouthS0 => ⟨.romWord, 0x7F#7, 0x10#7⟩
  | .goSouthS1 => ⟨.romWord, 0x7F#7, 0x11#7⟩
  | .goSouthS2 => ⟨.romWord, 0x7F#7, 0x12#7⟩
  | .goSouthS3 => ⟨.romWord, 0x7F#7, 0x13#7⟩
  | .goSouthS4 => ⟨.romWord, 0x7F#7, 0x14#7⟩
  | .goSouthS5 => ⟨.romWord, 0x7F#7, 0x15#7⟩
  | .goSouthS6 => ⟨.romWord, 0x7F#7, 0x16#7⟩
  | .goSouthS7 => ⟨.romWord, 0x7F#7, 0x17#7⟩
  | .waitSouthS0 => ⟨.romWord, 0x7F#7, 0x18#7⟩
  | .waitSouthS1 => ⟨.romWord, 0x7F#7, 0x19#7⟩
  | .waitSouthS2 => ⟨.romWord, 0x7F#7, 0x1A#7⟩
  | .waitSouthS3 => ⟨.romWord, 0x7F#7, 0x1B#7⟩
  | .waitSouthS4 => ⟨.romWord, 0x7F#7, 0x1C#7⟩
  | .waitSouthS5 => ⟨.romWord, 0x7F#7, 0x1D#7⟩
  | .waitSouthS6 => ⟨.romWord, 0x7F#7, 0x1E#7⟩
  | .waitSouthS7 => ⟨.romWord, 0x7F#7, 0x1F#7⟩
  | .goPedS0 => ⟨.romWord, 0x7F#7, 0x20#7⟩
  | .goPedS1 => ⟨.romWord, 0x7F#7, 0x21#7⟩
  | .goPedS2 => ⟨.romWord, 0x7F#7, 0x22#7⟩
  | .goPedS3 => ⟨.romWord, 0x7F#7, 0x23#7⟩
  | .goPedS4 => ⟨.romWord, 0x7F#7, 0x24#7⟩
  | .goPedS5 => ⟨.romWord, 0x7F#7, 0x25#7⟩
  | .goPedS6 => ⟨.romWord, 0x7F#7, 0x26#7⟩
  | .goPedS7 => ⟨.romWord, 0x7F#7, 0x27#7⟩
  | .flashPed1S0 => ⟨.romWord, 0x7F#7, 0x28#7⟩
  | .flashPed1S1 => ⟨.romWord, 0x7F#7, 0x29#7⟩
  | .flashPed1S2 => ⟨.romWord, 0x7F#7, 0x2A#7⟩
  | .flashPed1S3 => ⟨.romWord, 0x7F#7, 0x2B#7⟩
  | .flashPed1S4 => ⟨.romWord, 0x7F#7, 0x2C#7⟩
  | .flashPed1S5 => ⟨.romWord, 0x7F#7, 0x2D#7⟩
  | .flashPed1S6 => ⟨.romWord, 0x7F#7, 0x2E#7⟩
  | .flashPed1S7 => ⟨.romWord, 0x7F#7, 0x2F#7⟩
  | .flashPed2S0 => ⟨.romWord, 0x7F#7, 0x30#7⟩
  | .flashPed2S1 => ⟨.romWord, 0x7F#7, 0x31#7⟩
  | .flashPed2S2 => ⟨.romWord, 0x7F#7, 0x32#7⟩
  | .flashPed2S3 => ⟨.romWord, 0x7F#7, 0x33#7⟩
  | .flashPed2S4 => ⟨.romWord, 0x7F#7, 0x34#7⟩
  | .flashPed2S5 => ⟨.romWord, 0x7F#7, 0x35#7⟩
  | .flashPed2S6 => ⟨.romWord, 0x7F#7, 0x36#7⟩
  | .flashPed2S7 => ⟨.romWord, 0x7F#7, 0x37#7⟩
  | .flashPed3S0 => ⟨.romWord, 0x7F#7, 0x38#7⟩
  | .flashPed3S1 => ⟨.romWord, 0x7F#7, 0x39#7⟩
  | .flashPed3S2 => ⟨.romWord, 0x7F#7, 0x3A#7⟩
  | .flashPed3S3 => ⟨.romWord, 0x7F#7, 0x3B#7⟩
  | .flashPed3S4 => ⟨.romWord, 0x7F#7, 0x3C#7⟩
  | .flashPed3S5 => ⟨.romWord, 0x7F#7, 0x3D#7⟩
  | .flashPed3S6 => ⟨.romWord, 0x7F#7, 0x3E#7⟩
  | .flashPed3S7 => ⟨.romWord, 0x7F#7, 0x3F#7⟩
  | .flashPed4S0 => ⟨.romWord, 0x7F#7, 0x40#7⟩
  | .flashPed4S1 => ⟨.romWord, 0x7F#7, 0x41#7⟩
  | .flashPed4S2 => ⟨.romWord, 0x7F#7, 0x42#7⟩
  | .flashPed4S3 => ⟨.romWord, 0x7F#7, 0x43#7⟩
  | .flashPed4S4 => ⟨.romWord, 0x7F#7, 0x44#7⟩
  | .flashPed4S5 => ⟨.romWord, 0x7F#7, 0x45#7⟩
  | .flashPed4S6 => ⟨.romWord, 0x7F#7, 0x46#7⟩
  | .flashPed4S7 => ⟨.romWord, 0x7F#7, 0x47#7⟩

/-- A clock-view line from its 5-bit word `rst, tick, sensors[2:0]` (R63). -/
def edgeLine (w : EdgeWord) : Line :=
  .edge (w.getLsbD 4) (w.getLsbD 3) (some (w.extractLsb' 0 3))

/-- The 5-bit word of a clock-view line with a stable input (R63); the other lines have none. -/
def edgeWord : Line → Option EdgeWord
  | .edge rst tick (some i) => some (BitVec.ofBool rst ++ BitVec.ofBool tick ++ i)
  | .edge _ _ none => none
  | .reset => none
  | .sample _ => none
  | .word _ => none
  | .output => none

/-- The word the host's numbering names (log entry 2).  A width that is a format's own (3, 4 or 7 bits, or none) names that
format.  One whole byte is read as a ROM address with bit 7 zero, the widest format; two bytes are the one row the table
gives more than a byte, a state code in bits 3..0. -/
def codeOfTableWord (nbits w : Nat) : Option Code :=
  match nbits with
  | 0 => if w = 0 then some (.combinational 0#3) else none
  | 3 => if w < 8 then some (.control (BitVec.ofNat 3 w)) else none
  | 4 => if w < 16 then some (.stateCode (BitVec.ofNat 4 w)) else none
  | 7 => if w < 128 then some (.romWord (BitVec.ofNat 7 w)) else none
  | 8 => if w < 128 then some (.romWord (BitVec.ofNat 7 w)) else none
  | 16 => some (.stateCode (BitVec.ofNat 4 w))
  | _ => none

/-- The instruction the decoder reads from a table word, none where it rejects. -/
def decodeTableWord (nbits w : Nat) : Option Instr :=
  match codeOfTableWord nbits w with
  | some c => (decode c).toOption
  | none => none

end Sys2Proof
end

