-- ==== Sys2Proof/Machine/Fetch.lean ====
section
/-! DEFINITION. What a step runs: the next line of the environment's program, the input ports it drives, and the word the block
decodes at that edge (R60, R63, R75, R76). Log entries 1, 2 and 3. -/

namespace Sys2Proof.Machine

/-- The line of this edge: the program's next one, or the environment's free choice where the program has none (D18). -/
def nextLine (s : State) : Line :=
  match s.pending with
  | l :: _ => l
  | [] => edgeLine (Config.freeInputs s.edge)

/-- The input ports at the edge of a line.  `sample` and `word` speak of a transition edge, which has `rst` 0 and `tick` 1
(R72, R76); a reset edge reads neither `tick` nor `sensors` (R74). -/
def present (l : Line) (s : State) : State :=
  match l with
  | .edge rst tick sensors => s.setPorts rst tick sensors
  | .reset => s.setPorts true s.tick s.sensors
  | .sample i => s.setPorts false true (some i)
  | .word i => s.setPorts false true (some i)
  | .output => s

/-- The state in which this edge's instruction runs: the line taken and its inputs on the ports. -/
def atEdge (s : State) : State := present (nextLine s) s.takeLine

/-- The word the block decodes for a line, read off the state at the edge. -/
def codeOfLine (l : Line) (s : State) : Code :=
  match l with
  | .edge _ _ _ => .control (controlSelect s)
  | .reset => .control (controlSelect s)
  | .sample _ => .stateCode s.state
  | .word i => .romWord (romAddr s.state i)
  | .output => .combinational 0#3

/-- The word this step decodes. -/
def fetchCode (s : State) : Code := codeOfLine (nextLine s) (atEdge s)

/-- The instruction this step runs.  The only words the decoder rejects are ROM addresses of an illegal state, and the state is
checked before the ROM is read (R51): there the row of the illegal code runs. -/
def fetch (s : State) : Instr :=
  match decode (fetchCode s) with
  | .ok i => i
  | .error _ => decodeState (atEdge s).state

/-- The count a control word's bit `last` asks for: 1, or else the held count where it is not 1 and a full dwell where it is
(R60). -/
def countForLast (last : Bool) (v : Count) : Count :=
  if last then 1#10 else if v == 1#10 then 600#10 else v

/-- The state in which the next step decodes exactly the given word (log entry 2): the registers the word's bits name, and a
line in front of the program.  Bits of the line above the word (the sample) are 0. -/
def placeCode (c : Code) (s : State) : State :=
  match c with
  | .control w =>
    { s with cnt := countForLast (w.getLsbD 0) s.cnt,
             pending := .edge (w.getLsbD 2) (w.getLsbD 1) (some 0#3) :: s.pending }
  | .combinational _ => { s with pending := .output :: s.pending }
  | .stateCode c => { s with state := c, pending := .sample 0#3 :: s.pending }
  | .romWord a => { s with state := a.extractLsb' 3 4, pending := .word (a.extractLsb' 0 3) :: s.pending }

/-- `placeCode` of a table word; a width and word that name no row change nothing. -/
def placeTableWord (s : State) (nbits w : Nat) : State :=
  match codeOfTableWord nbits w with
  | some c => placeCode c s
  | none => s

end Sys2Proof.Machine
end

