-- ==== Sys2Proof/Machine/Step.lean ====
section
/-! DEFINITION. One step: one line of the environment's program, that is, one rising edge in the clock view (R75) or one dwell
cycle in the dwell view (R76). -/

namespace Sys2Proof.Machine

/-- The instruction fetched for the next line runs in the state at that line's edge. -/
def step (s : State) : Host.Outcome State Fault Refusal := exec (fetch s) (atEdge s)

/-- The state whose very next step decodes and runs the given table word (log entry 2). -/
def State.withFetchWord (s : State) (nbits w : Nat) : State := placeTableWord s nbits w

end Sys2Proof.Machine
end

