-- ==== Sys2Proof/Safety.lean ====
section
/-! DEFINITION. The terms of claims: legal held values (R22), outputs that follow the state (R70), the invariant of every step,
lamp safety (R92), runs of several steps, and programs of edges (R63, R76, R122). -/

namespace Sys2Proof.Machine

/-- The values the registers hold after a reset edge and ever after (R12, R14, R22); the checks of R75 pass. -/
abbrev Held (s : State) : Prop :=
  s.init = true ∧ s.state ≤ 8#4 ∧ 1#10 ≤ s.cnt ∧ s.cnt ≤ 600#10

/-- The ports show the codes of the held state (R70). -/
abbrev Coherent (s : State) : Prop :=
  (rowAt s.state).map (fun r => (r.road, r.ped)) = some (s.road, s.ped)

/-- What holds at every state a reset edge leads to. -/
abbrev RunInv (s : State) : Prop := Held s ∧ Coherent s

/-- What every step keeps, power-on included: once a reset edge has occurred, `RunInv`. -/
abbrev StepInv (s : State) : Prop := s.init = true → RunInv s

/-- Both approaches show green or yellow at once (R92 b). -/
def conflicting (r : RoadCode) : Bool := (ewGreen r || ewYellow r) && (nsGreen r || nsYellow r)

/-- Exactly one lamp is lit on each approach (R54). -/
def oneLampEach (r : RoadCode) : Bool :=
  (ewRed r).toNat + (ewYellow r).toNat + (ewGreen r).toNat == 1 &&
    (nsRed r).toNat + (nsYellow r).toNat + (nsGreen r).toNat == 1

/-- `n` steps, stopping at the first fault or refusal; a fault is final (R101). -/
def steps : Nat → State → Result
  | 0, s => .next s
  | n + 1, s => andThen (step s) (steps n)

/-- A clock-view line without reset. -/
def isPlainEdge : Line → Bool
  | .edge rst _ _ => !rst
  | _ => false

/-- A clock-view line without reset whose `tick` is high: one tick of the dwell (R71, R125). -/
def isTick : Line → Bool
  | .edge rst tick _ => !rst && tick
  | _ => false

/-- The ticks in a program. -/
def ticks (ls : List Line) : Nat := (ls.filter isTick).length

/-- One tick period of a tick source phase-reset with the block, `k + 1` edges per tick, the strobe at the last (R122 step 3,
R125). -/
def tickPeriod (k : Nat) (sensors : Option Sample) : List Line :=
  List.replicate k (.edge false false sensors) ++ [.edge false true sensors]

/-- `n` tick periods one after another. -/
def tickTrain (n k : Nat) (sensors : Option Sample) : List Line :=
  (List.replicate n (tickPeriod k sensors)).flatten

end Sys2Proof.Machine
end

