-- ==== Sys2Proof/Certificates/Slice0/Obligations.lean ====
section
/-! DEFINITION. The statements for the provers, from the numbered rules of spec/. The literal tables and the clock step below are
written out a second time from R32, R54, R56 and R75, so that a statement says what the spec says and not what the model says. -/

namespace Sys2Proof.Claims

open Sys2Proof.Machine

/-- The road codes by state index (R54, last column). -/
def specRoad : List RoadCode := [0x0C, 0x14, 0x21, 0x22, 0x24, 0x24, 0x24, 0x24, 0x24]

/-- The ped codes by state index (R13, R56; 95_test_vectors.md O1-O9). -/
def specPed : List PedCode := [0x02, 0x02, 0x02, 0x02, 0x08, 0x02, 0x00, 0x02, 0x00]

/-- The ROM image at 0x00..0x47 (R32). -/
def specRom : List RomWord :=
  [0x0, 0x0, 0x1, 0x1, 0x1, 0x1, 0x1, 0x1] ++ [0x2, 0x0, 0x2, 0x2, 0x4, 0x4, 0x2, 0x2] ++
  [0x2, 0x3, 0x2, 0x3, 0x3, 0x3, 0x2, 0x3] ++ [0x0, 0x0, 0x2, 0x0, 0x4, 0x0, 0x4, 0x4] ++
  [0x4, 0x5, 0x5, 0x5, 0x4, 0x5, 0x5, 0x5] ++ [0x6, 0x6, 0x6, 0x6, 0x6, 0x6, 0x6, 0x6] ++
  [0x7, 0x7, 0x7, 0x7, 0x7, 0x7, 0x7, 0x7] ++ [0x8, 0x8, 0x8, 0x8, 0x8, 0x8, 0x8, 0x8] ++
  [0x0, 0x0, 0x2, 0x0, 0x4, 0x0, 0x2, 0x0]

/-- `ROAD[c]` for a legal code. -/
def roadOf (c : StateCode) : RoadCode := specRoad.getD c.toNat 0

/-- `PED[c]` for a legal code. -/
def pedOf (c : StateCode) : PedCode := specPed.getD c.toNat 0

/-- The ROM word of a legal state and a sample (R31, R32). -/
def specWord (c : StateCode) (i : Sample) : StateCode := specRom.getD (8 * c.toNat + i.toNat) 0

/-- The outputs follow the held state; nothing else changes (R70). -/
def driven (s : State) : State := { s with road := roadOf s.state, ped := pedOf s.state }

/-- The state `n` entered: the two registers and the two outputs, nothing else (R14, R37, R72, R74). -/
def entered (n : StateCode) (s : State) : State :=
  { s with state := n, cnt := 600#10, road := roadOf n, ped := pedOf n }

/-- The state at an edge: the inputs on the ports, one line taken from the program. -/
def edgeState (s : State) (rst tick : Bool) (i : Option Sample) (rest : List Line) : State :=
  { s with rst := rst, tick := tick, sensors := i, pending := rest, edge := s.edge + 1 }

/-- R75's `Step`, line by line, with the outputs of the clock cycle after it. -/
def clockStep (s : State) (rst tick : Bool) (i : Sample) : Result :=
  if rst then .next (entered 0#4 { s with init := true })
  else if s.init = false then .fault .noReset
  else if 8#4 < s.state then .fault (.illegalState s.state)
  else if s.cnt = 0#10 ∨ 600#10 < s.cnt then .fault (.illegalCount s.cnt)
  else if tick = false then .next (driven s)
  else if 1#10 < s.cnt then .next (driven { s with cnt := s.cnt - 1#10 })
  else .next (entered (specWord s.state i) s)

/-- What R80-R88 say of one state: its code selects its row (encoding), its outputs, its dwell, the next state of the dwell
cycle at every sample, and the eight ROM words of its row at their addresses. -/
def StateRule (code : StateCode) (road : RoadCode) (ped : PedCode) (next : List StateCode) (i : Instr) (cells : List Instr) :
    Prop :=
  decode (.stateCode code) = .ok i ∧
  (∀ s : State, s.init = true → s.state = code → exec .output s = .next { s with road := road, ped := ped }) ∧
  (∀ s : State, enter code s = .next { s with state := code, cnt := 600#10, road := road, ped := ped }) ∧
  (∀ (s : State) (x : Sample), Held s → s.state = code → s.cnt = 600#10 → s.sensors = some x →
    exec i s = .next (entered (next.getD x.toNat 0) s)) ∧
  (∀ x : Sample, decode (.romWord (code ++ x)) = .ok (cells.getD x.toNat .output)) ∧
  (∀ (s : State) (x : Sample), Held s → s.state = code → s.cnt = 1#10 → s.sensors = some x →
    exec (cells.getD x.toNat .output) s = .next (entered (next.getD x.toNat 0) s))

end Sys2Proof.Claims

open Sys2Proof Sys2Proof.Machine Sys2Proof.Claims

/-- R74, R20, R120: RESET from any held values; at a step it wins over a tick and over the sample; a second edge repeats the
same load.  What the dwell-view line `reset` leaves on the input ports is ResetAndOutputLinesLeaveTheOtherPorts. -/
def Obligations.ResetLoadsGoWestFromAnyValues : Prop :=
  (∀ s : State, exec .reset s =
    .next { s with state := 0#4, cnt := 600#10, init := true, road := 0x0C#6, ped := 0x02#4 }) ∧
  (∀ (s : State) (tick : Bool) (x : Option Sample) (rest : List Line), s.pending = .edge true tick x :: rest →
    step s = .next { edgeState s true tick x rest with
      state := 0#4, cnt := 600#10, init := true, road := 0x0C#6, ped := 0x02#4 }) ∧
  (∀ (s : State) (rest : List Line), s.pending = .reset :: rest →
    ∃ t, step s = .next t ∧ t.state = 0#4 ∧ t.cnt = 600#10 ∧ t.init = true ∧ t.road = 0x0C#6 ∧ t.ped = 0x02#4 ∧
      t.pending = rest) ∧
  (∀ (s : State) (t t' : Bool) (x x' : Option Sample) (rest : List Line),
    s.pending = .edge true t x :: .edge true t' x' :: rest →
    ∃ u v, step s = .next u ∧ step u = .next v ∧ v.state = u.state ∧ v.cnt = u.cnt ∧ v.road = u.road ∧ v.ped = u.ped)

/-- R73: HOLD keeps both registers, the checks of the held values still apply, and with no tick the block holds for ever. -/
def Obligations.HoldKeepsBothRegisters : Prop :=
  (∀ s : State, Held s → exec .hold s = .next (driven s)) ∧
  (∀ s : State, RunInv s → exec .hold s = .next s) ∧
  (∀ s : State, s.init = true → 8#4 < s.state → exec .hold s = .fault (.illegalState s.state)) ∧
  (∀ s : State, s.init = true → s.state ≤ 8#4 → s.cnt = 0#10 ∨ 600#10 < s.cnt →
    exec .hold s = .fault (.illegalCount s.cnt)) ∧
  (∀ (s : State) (x : Option Sample) (rest : List Line), Held s → s.pending = .edge false false x :: rest →
    step s = .next (driven (edgeState s false false x rest))) ∧
  (∀ (s : State) (ls rest : List Line), RunInv s → (∀ l ∈ ls, ∃ x, l = .edge false false x) → s.pending = ls ++ rest →
    ∃ t, steps ls.length s = .next t ∧ t.state = s.state ∧ t.cnt = s.cnt ∧ t.road = s.road ∧ t.ped = s.ped)

/-- R71: DWELL_COUNT lowers the count by one, never wraps, reads no sample, and faults on an illegal count. -/
def Obligations.DwellCountCountsOneTick : Prop :=
  (∀ s : State, Held s → s.cnt ≠ 1#10 →
    exec .dwellCount s = .next (driven { s with cnt := s.cnt - 1#10 }) ∧
      1#10 ≤ s.cnt - 1#10 ∧ s.cnt - 1#10 ≤ 599#10) ∧
  (∀ s : State, s.init = true → s.state ≤ 8#4 → s.cnt = 0#10 ∨ 600#10 < s.cnt →
    exec .dwellCount s = .fault (.illegalCount s.cnt)) ∧
  (∀ (s : State) (x : Option Sample) (rest : List Line), Held s → s.cnt ≠ 1#10 → s.pending = .edge false true x :: rest →
    step s = .next (driven { edgeState s false true x rest with cnt := s.cnt - 1#10 }))

/-- R72: SAMPLE_TRANSITION loads the ROM word at `state, sample` and a full dwell; a self-transition reloads the count and
leaves the outputs; the flash states ignore the sample; an illegal state faults. -/
def Obligations.SampleTransitionLoadsTheRomWord : Prop :=
  (∀ (s : State) (x : Sample), Held s → s.cnt = 1#10 → s.sensors = some x →
    exec .sampleTransition s = .next (entered (specWord s.state x) s)) ∧
  (∀ s : State, s.init = true → 8#4 < s.state → exec .sampleTransition s = .fault (.illegalState s.state)) ∧
  (∀ (s : State) (x : Sample) (rest : List Line), Held s → s.cnt = 1#10 → s.pending = .edge false true (some x) :: rest →
    step s = .next (entered (specWord s.state x) (edgeState s false true (some x) rest))) ∧
  (∀ (s : State) (x : Sample), RunInv s → s.cnt = 1#10 → s.sensors = some x → specWord s.state x = s.state →
    exec .sampleTransition s = .next { s with cnt := 600#10 }) ∧
  (∀ x : Sample, specWord 5#4 x = 6#4 ∧ specWord 6#4 x = 7#4 ∧ specWord 7#4 x = 8#4)

/-- R70: OUTPUT drives the two codes of the state alone; after every edge they are the new state's; they change only with
`state`; an illegal code faults. -/
def Obligations.OutputDrivesTheCodesOfTheState : Prop :=
  (∀ s : State, s.init = true → s.state ≤ 8#4 → exec .output s = .next (driven s)) ∧
  (∀ s : State, s.init = true → 8#4 < s.state → exec .output s = .fault (.illegalState s.state)) ∧
  (∀ s t : State, RunInv s → step s = .next t → t.road = roadOf t.state ∧ t.ped = pedOf t.state) ∧
  (∀ s t : State, RunInv s → step s = .next t → t.state = s.state → t.road = s.road ∧ t.ped = s.ped)

/-- R80: GoWest. -/
def Obligations.RuleGoWest : Prop :=
  StateRule 0#4 0x0C#6 0x02#4 [0, 0, 1, 1, 1, 1, 1, 1] .goWest
    [.goWestS0, .goWestS1, .goWestS2, .goWestS3, .goWestS4, .goWestS5, .goWestS6, .goWestS7]

/-- R81: WaitWest. -/
def Obligations.RuleWaitWest : Prop :=
  StateRule 1#4 0x14#6 0x02#4 [2, 0, 2, 2, 4, 4, 2, 2] .waitWest
    [.waitWestS0, .waitWestS1, .waitWestS2, .waitWestS3, .waitWestS4, .waitWestS5, .waitWestS6, .waitWestS7]

/-- R82: GoSouth. -/
def Obligations.RuleGoSouth : Prop :=
  StateRule 2#4 0x21#6 0x02#4 [2, 3, 2, 3, 3, 3, 2, 3] .goSouth
    [.goSouthS0, .goSouthS1, .goSouthS2, .goSouthS3, .goSouthS4, .goSouthS5, .goSouthS6, .goSouthS7]

/-- R83: WaitSouth. -/
def Obligations.RuleWaitSouth : Prop :=
  StateRule 3#4 0x22#6 0x02#4 [0, 0, 2, 0, 4, 0, 4, 4] .waitSouth
    [.waitSouthS0, .waitSouthS1, .waitSouthS2, .waitSouthS3, .waitSouthS4, .waitSouthS5, .waitSouthS6, .waitSouthS7]

/-- R84: GoPed. -/
def Obligations.RuleGoPed : Prop :=
  StateRule 4#4 0x24#6 0x08#4 [4, 5, 5, 5, 4, 5, 5, 5] .goPed
    [.goPedS0, .goPedS1, .goPedS2, .goPedS3, .goPedS4, .goPedS5, .goPedS6, .goPedS7]

/-- R85: FlashPed1. -/
def Obligations.RuleFlashPed1 : Prop :=
  StateRule 5#4 0x24#6 0x02#4 [6, 6, 6, 6, 6, 6, 6, 6] .flashPed1
    [.flashPed1S0, .flashPed1S1, .flashPed1S2, .flashPed1S3, .flashPed1S4, .flashPed1S5, .flashPed1S6, .flashPed1S7]

/-- R86: FlashPed2. -/
def Obligations.RuleFlashPed2 : Prop :=
  StateRule 6#4 0x24#6 0x00#4 [7, 7, 7, 7, 7, 7, 7, 7] .flashPed2
    [.flashPed2S0, .flashPed2S1, .flashPed2S2, .flashPed2S3, .flashPed2S4, .flashPed2S5, .flashPed2S6, .flashPed2S7]

/-- R87: FlashPed3. -/
def Obligations.RuleFlashPed3 : Prop :=
  StateRule 7#4 0x24#6 0x02#4 [8, 8, 8, 8, 8, 8, 8, 8] .flashPed3
    [.flashPed3S0, .flashPed3S1, .flashPed3S2, .flashPed3S3, .flashPed3S4, .flashPed3S5, .flashPed3S6, .flashPed3S7]

/-- R88: FlashPed4. -/
def Obligations.RuleFlashPed4 : Prop :=
  StateRule 8#4 0x24#6 0x00#4 [0, 0, 2, 0, 4, 0, 2, 0] .flashPed4
    [.flashPed4S0, .flashPed4S1, .flashPed4S2, .flashPed4S3, .flashPed4S4, .flashPed4S5, .flashPed4S6, .flashPed4S7]

/-- R75, R103: every edge a program line speaks of is the clock step, with its order of checks and its outputs. -/
def Obligations.EveryEdgeIsTheClockStep : Prop :=
  ∀ (s : State) (rst tick : Bool) (x : Sample) (rest : List Line), s.pending = .edge rst tick (some x) :: rest →
    step s = clockStep (edgeState s rst tick (some x) rest) rst tick x

/-- R75 for an edge no line speaks of: the clock step on inputs nothing constrains (the model's free value, log entry 1). -/
def Obligations.UnspokenEdgeTakesFreeInputs : Prop :=
  ∀ s : State, s.pending = [] → ∃ (rst tick : Bool) (x : Sample),
    BitVec.ofBool rst ++ BitVec.ofBool tick ++ x = Config.freeInputs s.edge ∧
      step s = clockStep (edgeState s rst tick (some x) []) rst tick x

/-- R60: the operation select; every value matches exactly one row, and OUTPUT is not selected. -/
def Obligations.OperationSelectIsRuleSixty : Prop :=
  (∀ s : State, controlSelect s = BitVec.ofBool s.rst ++ BitVec.ofBool s.tick ++ BitVec.ofBool (s.cnt == 1#10)) ∧
  (∀ r t l : Bool, decode (.control (BitVec.ofBool r ++ BitVec.ofBool t ++ BitVec.ofBool l)) =
    .ok (if r then .reset else if t = false then .hold else if l = false then .dwellCount else .sampleTransition)) ∧
  (∀ w : BitVec 3, (([.reset, .hold, .dwellCount, .sampleTransition] : List Instr).filter
    (fun i => (opcodeRow i).accepts (.control w))).length = 1) ∧
  (∀ w : BitVec 3, decode (.combinational w) = .ok .output)

/-- R50, R51, R57, R60: words written out from the spec's encodings decode to the instructions they stand for. -/
def Obligations.WordsWrittenOutDecode : Prop :=
  decode (.control 0b101#3) = .ok .reset ∧ decode (.control 0b001#3) = .ok .hold ∧
  decode (.control 0b010#3) = .ok .dwellCount ∧ decode (.control 0b011#3) = .ok .sampleTransition ∧
  decode (.combinational 0b111#3) = .ok .output ∧
  decode (.stateCode 0b0100#4) = .ok .goPed ∧ decode (.stateCode 0b1000#4) = .ok .flashPed4 ∧
  decode (.stateCode 0b1011#4) = .ok (.illegalState101x 0b1011#4) ∧
  decode (.romWord 0b0001001#7) = .ok .waitWestS1 ∧ decode (.romWord 0b1000110#7) = .ok .flashPed4S6 ∧
  decode (.romWord 0b1001000#7) = .error (.unusedRomAddress 0b1001000#7)

/-- R51: the illegal codes stop under their own name, whatever reads them, and no step writes one. -/
def Obligations.IllegalStateCodesStop : Prop :=
  (∀ s : State, s.init = true → exec .illegalState1001 s = .fault (.illegalState 0b1001#4)) ∧
  (∀ (s : State) (c : StateCode), s.init = true → c &&& 0b1110#4 = 0b1010#4 →
    exec (.illegalState101x c) s = .fault (.illegalState c)) ∧
  (∀ (s : State) (c : StateCode), s.init = true → c &&& 0b1100#4 = 0b1100#4 →
    exec (.illegalState11xx c) s = .fault (.illegalState c)) ∧
  (∀ c : StateCode, 8#4 < c → decode (.stateCode c) =
    .ok (if c = 0b1001#4 then .illegalState1001
      else if c &&& 0b1110#4 = 0b1010#4 then .illegalState101x c else .illegalState11xx c)) ∧
  (∀ s : State, s.init = true → 8#4 < s.state → (atEdge s).rst = false → step s = .fault (.illegalState s.state)) ∧
  (∀ s t : State, s.state ≤ 8#4 → step s = .next t → t.state ≤ 8#4)

/-- R31, R57: the ROM address is the state index above the sample, and the word at `8*s + i` is `next[i]` of state `s`. -/
def Obligations.RomAddressIsStateThenSample : Prop :=
  (∀ (c : StateCode) (x : Sample), (romAddr c x).toNat = 8 * c.toNat + x.toNat ∧
    (romAddr c x).extractLsb' 3 4 = c ∧ (romAddr c x).extractLsb' 0 3 = x) ∧
  (∀ (c : StateCode) (x : Sample), c ≤ 8#4 → (romAddr c x).toNat ≤ 71 ∧ memRead (romAddr c x) = specWord c x)

/-- R32: the 72 used words; and no legal state forms another address (R31), so no step reads an unused word. -/
def Obligations.RomImageIsRuleThirtyTwo : Prop :=
  (∀ a : RomAddr, a.toNat < 72 → memRead a = specRom.getD a.toNat 0) ∧
  (∀ (c : StateCode) (x : Sample), c ≤ 8#4 → (romAddr c x).toNat < 72)

/-- R89, R90: every dwell is 600 and the table is total and closed. -/
def Obligations.TableIsClosedWithDwellSixHundred : Prop :=
  (∀ c : StateCode, c ≤ 8#4 → ∃ row, rowAt c = some row ∧ row.dwell = 600#10 ∧ row.next.length = 8) ∧
  (∀ (c : StateCode) (x : Sample), c ≤ 8#4 → memRead (romAddr c x) ≤ 8#4)

/-- R34, R122 step 1, R4: the table the model is built with passes the build's check, and a table with a word outside 0..8, a
row of another length, a dwell other than 600, another number of rows than nine, or at some index a road or ped code other than
that state's (R80-R88) is rejected. -/
def Obligations.MalformedTablesAreRejected : Prop :=
  tableWf stateTable = true ∧
  (∀ (table : List StateRow) (r : StateRow) (w : RomWord), r ∈ table → w ∈ r.next → 8#4 < w → tableWf table = false) ∧
  (∀ (table : List StateRow) (r : StateRow), r ∈ table → r.next.length ≠ 8 → tableWf table = false) ∧
  (∀ (table : List StateRow) (r : StateRow), r ∈ table → r.dwell ≠ 600#10 → tableWf table = false) ∧
  (∀ table : List StateRow, table.length ≠ 9 → tableWf table = false) ∧
  (∀ (table : List StateRow) (k : Nat) (r : StateRow), table[k]? = some r →
    r.road ≠ specRoad.getD k 0 ∨ r.ped ≠ specPed.getD k 0 → tableWf table = false)

/-- R22, R70 as an invariant of every step, power-on included. -/
def Obligations.EveryStepKeepsTheInvariant : Prop :=
  ∀ s t : State, StepInv s → step s = .next t → StepInv t

/-- R20: the state after reset, and that it meets the invariant. -/
def Obligations.ResetStateMeetsTheInvariant : Prop :=
  State.reset.state = 0#4 ∧ State.reset.cnt = 600#10 ∧ State.reset.road = 0x0C#6 ∧ State.reset.ped = 0x02#4 ∧
    RunInv State.reset ∧ StepInv State.powerOn

/-- R22: in every state reached from a reset edge, by any inputs, `state` is in 0..8 and `cnt` in 1..600. -/
def Obligations.RangesHoldFromEveryResetEdge : Prop :=
  ∀ (s t : State) (tick : Bool) (x : Option Sample) (rest : List Line) (n : Nat),
    s.pending = .edge true tick x :: rest → steps (n + 1) s = .next t →
      t.state ≤ 8#4 ∧ 1#10 ≤ t.cnt ∧ t.cnt ≤ 600#10

/-- R77, R100, R101: from the invariant no program of any length stops: the block has no terminal state, and no fault is
reachable from a reset edge. -/
def Obligations.NoRunStopsAfterReset : Prop :=
  ∀ (s : State) (n : Nat), RunInv s → ∃ t, steps n s = .next t ∧ RunInv t

/-- R101: a step stops only with one of the three faults, each on its own condition, and never with a refusal; a fault is
final. -/
def Obligations.FaultsAreTheThreeOfRuleOneHundredOne : Prop :=
  (∀ (s : State) (f : Fault), step s = .fault f →
    (f = .noReset ∧ s.init = false ∧ (atEdge s).rst = false) ∨
    (f = .illegalState s.state ∧ s.init = true ∧ 8#4 < s.state) ∨
    (f = .illegalCount s.cnt ∧ s.init = true ∧ s.state ≤ 8#4 ∧ (s.cnt = 0#10 ∨ 600#10 < s.cnt))) ∧
  (∀ (s : State) (r : Refusal), step s ≠ .refused r) ∧
  (∀ (s : State) (f : Fault) (n : Nat), step s = .fault f → steps (n + 1) s = .fault f)

/-- R21, R121: before the first reset edge a step on a clock-view edge with rst = 0, on a dwell-view line `sample` or on the
model's own line `word` (log entry 3) raises NoReset, and one reset edge from power-on gives the registers their values.  That the
last two lines make R75's checks is log entry 10, and that the flag is false at power-on log entry 6.  The line `output` is not
among them (OutputBeforeResetIsFree); an edge no line speaks of is UnspokenEdgeTakesFreeInputs. -/
def Obligations.NoStepBeforeTheFirstReset : Prop :=
  State.powerOn.init = false ∧
  (∀ (s : State) (tick : Bool) (x : Option Sample) (rest : List Line),
    s.init = false → s.pending = .edge false tick x :: rest → step s = .fault .noReset) ∧
  (∀ (s : State) (x : Sample) (rest : List Line),
    s.init = false → s.pending = .sample x :: rest ∨ s.pending = .word x :: rest → step s = .fault .noReset) ∧
  (∀ (tick : Bool) (x : Option Sample) (rest : List Line),
    ∃ t, step { State.powerOn with pending := .edge true tick x :: rest } = .next t ∧ RunInv t)

/-- R121: before the first reset edge OUTPUT drives values nothing constrains (the model's free values, log entry 5). -/
def Obligations.OutputBeforeResetIsFree : Prop :=
  ∀ s : State, s.init = false →
    exec .output s = .next { s with road := Config.freeRoad s.edge, ped := Config.freePed s.edge }

/-- A step runs the instruction its word decodes to, in the state at its edge, where the registers and the outputs are still
the ones before the edge (R6, R60) and one line of the program has been taken.  That an edge fetches the operation select is R60;
that a line `sample` fetches the state code and a line `word` the ROM address is the model's choice, log entry 3. -/
def Obligations.StepRunsTheDecodedInstruction : Prop :=
  (∀ (s : State) (i : Instr), decode (fetchCode s) = .ok i → step s = exec i (atEdge s)) ∧
  (∀ s : State, atEdge s = { s with
    rst := (atEdge s).rst, tick := (atEdge s).tick, sensors := (atEdge s).sensors,
    pending := s.pending.tail, edge := s.edge + 1 }) ∧
  (∀ (s : State) (rst tick : Bool) (x : Option Sample) (rest : List Line), s.pending = .edge rst tick x :: rest →
    fetchCode s = .control (BitVec.ofBool rst ++ BitVec.ofBool tick ++ BitVec.ofBool (s.cnt == 1#10))) ∧
  (∀ (s : State) (x : Sample) (rest : List Line), s.pending = .sample x :: rest → fetchCode s = .stateCode s.state) ∧
  (∀ (s : State) (x : Sample) (rest : List Line), s.pending = .word x :: rest → fetchCode s = .romWord (romAddr s.state x))

/-- Decode and encode agree on every well-formed instruction (R50, R51, R57, R60). -/
def Obligations.DecodeOfEncodeIsTheInstruction : Prop :=
  ∀ i : Instr, i.wf = true → decode (encode i) = .ok i

/-- What the decoder reads is well-formed and in the row of spec/opcode_table.json whose mask and pattern take the word; it
rejects the unused ROM addresses and nothing else (R43, R51, R60). -/
def Obligations.DecodedInstructionIsInItsRow : Prop :=
  (∀ (c : Code) (i : Instr), decode c = .ok i → i.wf = true ∧ (opcodeRow i).accepts c = true) ∧
  (∀ c : Code, (∃ e, decode c = .error e) ↔ ∃ a : RomAddr, c = .romWord a ∧ 72 ≤ a.toNat)

/-- The three rows that take a transition agree from every legal count: SAMPLE_TRANSITION (R72), the state's row in the dwell
view (R76; log entry 12), and the ROM word at `state, sample` (R32; log entry 3).  R60 selects SAMPLE_TRANSITION at a count of 1
only: what `exec` does with it at the other counts is the model's choice, log entry 11. -/
def Obligations.TransitionRowsAgree : Prop :=
  (∀ s : State, Held s → exec (decodeState s.state) s = exec .sampleTransition s) ∧
  (∀ (s : State) (i : Instr), Held s → decode (.romWord (romAddr s.state (captured s))) = .ok i →
    exec i s = exec .sampleTransition s) ∧
  (∀ (s : State) (x : Sample), Held s → s.sensors = some x →
    exec .sampleTransition s = .next (entered (specWord s.state x) s))

/-- R76 (a), (b), (c): from an entry edge, over any edges without reset of which the last is the 600th tick, the clock view
keeps state and outputs, takes its transition at that edge and ends where the dwell view's one step ends. -/
def Obligations.DwellViewAgreesWithClockView : Prop :=
  ∀ (s : State) (ls rest : List Line) (x : Sample), RunInv s → s.cnt = 600#10 → (∀ l ∈ ls, isPlainEdge l = true) →
    ticks ls = 599 → s.pending = ls ++ .edge false true (some x) :: rest →
    (∀ m, m ≤ ls.length →
      ∃ t, steps m s = .next t ∧ t.state = s.state ∧ t.road = roadOf s.state ∧ t.ped = pedOf s.state) ∧
    (∃ t, steps ls.length s = .next t ∧ fetch t = .sampleTransition) ∧
    ∃ t u, steps (ls.length + 1) s = .next t ∧ step { s with pending := .sample x :: rest } = .next u ∧
      t.state = specWord s.state x ∧ t.cnt = 600#10 ∧ t.road = roadOf t.state ∧ t.ped = pedOf t.state ∧ t.pending = rest ∧
      u.state = t.state ∧ u.cnt = t.cnt ∧ u.road = t.road ∧ u.ped = t.ped ∧ u.pending = t.pending

/-- R79: from an entry edge, the first 599 ticks are DWELL_COUNT operations and the 600th is SAMPLE_TRANSITION, with any number
of HOLD edges between them. -/
def Obligations.DwellIsSixHundredTicks : Prop :=
  ∀ (s : State) (ls rest : List Line) (x : Option Sample), RunInv s → s.cnt = 600#10 → (∀ l ∈ ls, isPlainEdge l = true) →
    ticks ls ≤ 599 → s.pending = ls ++ .edge false true x :: rest →
    ∃ t, steps ls.length s = .next t ∧ t.state = s.state ∧ t.cnt.toNat = 600 - ticks ls ∧
      fetch t = if ticks ls = 599 then .sampleTransition else .dwellCount

/-- R79, R91: the pedestrian flash takes 4 x 600 ticks from the entry edge of FlashPed1, in the fixed order, for every input
without reset: through the first 2399 ticks the state is one of the flash, and the 2400th tick edge is the transition edge out of
FlashPed4 (to a state R88 names, the one of its sample where `sensors` is stable). -/
def Obligations.FlashTakesTwentyFourHundredTicks : Prop :=
  ∀ (s : State) (ls rest : List Line), RunInv s → s.state = 5#4 → s.cnt = 600#10 → (∀ l ∈ ls, isPlainEdge l = true) →
    s.pending = ls ++ rest →
    (ticks ls < 2400 →
      ∃ t, steps ls.length s = .next t ∧ t.state.toNat = 5 + ticks ls / 600 ∧ t.cnt.toNat = 600 - ticks ls % 600 ∧
        t.road = 0x24#6 ∧ t.ped = ([0x02, 0x00, 0x02, 0x00] : List PedCode).getD (ticks ls / 600) 0) ∧
    (∀ (y : Option Sample) (tail : List Line), ticks ls = 2399 → rest = .edge false true y :: tail →
      ∃ t u, steps ls.length s = .next t ∧ t.state = 8#4 ∧ fetch t = .sampleTransition ∧
        steps (ls.length + 1) s = .next u ∧ (u.state = 0#4 ∨ u.state = 2#4 ∨ u.state = 4#4) ∧
        (∀ x, y = some x → u.state = specWord 8#4 x) ∧ u.cnt = 600#10 ∧ u.road = roadOf u.state ∧
        u.ped = pedOf u.state ∧ u.pending = tail)

/-- R123: after a reset edge the outputs are GoWest's, the first dwell counts from 600, and the first sample is read at the 600th
tick. -/
def Obligations.FirstSampleIsAtTheSixHundredthTick : Prop :=
  ∀ (s : State) (tick : Bool) (y : Option Sample) (x : Sample) (ls rest : List Line), (∀ l ∈ ls, isPlainEdge l = true) →
    s.pending = .edge true tick y :: (ls ++ .edge false true (some x) :: rest) →
    (ticks ls ≤ 599 → ∃ t, steps (ls.length + 1) s = .next t ∧ t.state = 0#4 ∧ t.cnt.toNat = 600 - ticks ls ∧
      t.road = 0x0C#6 ∧ t.ped = 0x02#4) ∧
    (ticks ls = 599 → ∃ t, steps (ls.length + 2) s = .next t ∧ t.state = specWord 0#4 x ∧ t.cnt = 600#10)

/-- R36, R124: at an edge that is no transition edge the input `sensors` changes nothing but its own port. -/
def Obligations.SensorsMatterOnlyAtTheTransitionEdge : Prop :=
  ∀ (s t : State) (rst tick : Bool) (x y : Option Sample) (rest : List Line),
    ¬ (rst = false ∧ tick = true ∧ s.cnt = 1#10) →
    step { s with pending := .edge rst tick x :: rest } = .next t →
    step { s with pending := .edge rst tick y :: rest } = .next { t with sensors := y }

/-- R124: a transition edge at which `sensors` is not stable loads the word of a sample nothing constrains (the model's free
value, log entry 8). -/
def Obligations.UnstableSensorsGiveAFreeSample : Prop :=
  ∀ (s : State) (rest : List Line), Held s → s.cnt = 1#10 → s.pending = .edge false true none :: rest →
    step s = .next (entered (specWord s.state (Config.freeSample (s.edge + 1))) (edgeState s false true none rest))

/-- R91: every state is reached from reset in the dwell view; after FlashPed1 the next three dwells are FlashPed2, FlashPed3 and
FlashPed4 for every sample sequence, showing DONT_WALK, DARK, DONT_WALK, DARK.  The second clause starts at every legal count of
FlashPed1, not only at its entry edge: that the first line `sample` then runs the rest of the dwell is log entry 12 (DEDUCED). -/
def Obligations.EveryStateIsReachedAndTheFlashIsFixed : Prop :=
  (∀ c : StateCode, c ≤ 8#4 → ∃ (xs : List Sample) (t : State),
    steps xs.length { State.reset with pending := xs.map Line.sample } = .next t ∧ t.state = c) ∧
  (∀ (s : State) (x y z : Sample) (rest : List Line), RunInv s → s.state = 5#4 →
    s.pending = .sample x :: .sample y :: .sample z :: rest →
    s.ped = 0x02#4 ∧
    ∃ t u v, step s = .next t ∧ step t = .next u ∧ step u = .next v ∧
      t.state = 6#4 ∧ t.ped = 0x00#4 ∧ u.state = 7#4 ∧ u.ped = 0x02#4 ∧ v.state = 8#4 ∧ v.ped = 0x00#4)

/-- R92 (a) to (e). -/
def Obligations.LampsAreSafe : Prop :=
  (∀ s : State, RunInv s → s.ped = 0x08#4 → s.state = 4#4 ∧ s.road = 0x24#6) ∧
  (∀ s : State, RunInv s → conflicting s.road = false) ∧
  (∀ s : State, RunInv s → 4#4 ≤ s.state → s.road = 0x24#6) ∧
  (∀ s : State, Held s → s.cnt = 1#10 → s.state = 1#4 ∨ s.state = 3#4 →
    ∃ t, exec .sampleTransition s = .next t ∧ (t.state = 0#4 ∨ t.state = 2#4 ∨ t.state = 4#4)) ∧
  (∀ s : State, Held s → s.cnt = 1#10 → s.state = 0#4 →
    ∃ t, exec .sampleTransition s = .next t ∧ (t.state = 0#4 ∨ t.state = 1#4)) ∧
  (∀ s : State, Held s → s.cnt = 1#10 → s.state = 2#4 →
    ∃ t, exec .sampleTransition s = .next t ∧ (t.state = 2#4 ∨ t.state = 3#4))

/-- R53-R56: only the five road codes and the three ped codes are driven, by the states the rules name; each road code lights
exactly one lamp per approach, the one the rule names. -/
def Obligations.OnlyTheProducibleCodesAreDriven : Prop :=
  (∀ s t : State, RunInv s → step s = .next t →
    (t.road = 0x0C#6 ∧ t.state = 0#4) ∨ (t.road = 0x14#6 ∧ t.state = 1#4) ∨ (t.road = 0x21#6 ∧ t.state = 2#4) ∨
    (t.road = 0x22#6 ∧ t.state = 3#4) ∨ (t.road = 0x24#6 ∧ 4#4 ≤ t.state)) ∧
  (∀ s t : State, RunInv s → step s = .next t →
    (t.ped = 0x08#4 ∨ t.ped = 0x02#4 ∨ t.ped = 0x00#4) ∧ t.ped.getLsbD 2 = false ∧ t.ped.getLsbD 0 = false) ∧
  (∀ s t : State, RunInv s → step s = .next t → oneLampEach t.road = true) ∧
  (ewGreen 0x0C#6 ∧ nsRed 0x0C#6 ∧ ewYellow 0x14#6 ∧ nsRed 0x14#6 ∧ ewRed 0x21#6 ∧ nsGreen 0x21#6 ∧
    ewRed 0x22#6 ∧ nsYellow 0x22#6 ∧ ewRed 0x24#6 ∧ nsRed 0x24#6 ∧ walkLamp 0x08#4 ∧ dontWalkLamp 0x02#4)

/-- R12: at an edge without reset `state` changes only where SAMPLE_TRANSITION takes place, at the tick that finds `cnt` 1. -/
def Obligations.OnlyTransitionsAndResetWriteState : Prop :=
  ∀ (s t : State) (tick : Bool) (x : Option Sample) (rest : List Line), s.pending = .edge false tick x :: rest →
    step s = .next t → t.state ≠ s.state → fetch s = .sampleTransition ∧ tick = true ∧ s.cnt = 1#10 ∧ t.cnt = 600#10

/-- R78: the decrement is performed only on 2..600, and its result is in 1..599. -/
def Obligations.DecrementNeverWraps : Prop :=
  ∀ s t : State, fetch s = .dwellCount → step s = .next t →
    2 ≤ s.cnt.toNat ∧ s.cnt.toNat ≤ 600 ∧ t.cnt.toNat = s.cnt.toNat - 1 ∧ 1 ≤ t.cnt.toNat ∧ t.cnt.toNat ≤ 599

/-- R63: the 5-bit word of a clock-view line is `rst, tick, sensors`, each bit in its place, and reading it back gives it. -/
def Obligations.ProgramLineWordsRoundTrip : Prop :=
  (∀ w : EdgeWord, edgeWord (edgeLine w) = some w) ∧
  (∀ (rst tick : Bool) (x : Sample), edgeLine (BitVec.ofBool rst ++ BitVec.ofBool tick ++ x) = .edge rst tick (some x)) ∧
  edgeLine 0b01100#5 = .edge false true (some 0b100#3) ∧ edgeLine 0b10000#5 = .edge true false (some 0b000#3)

/-- R131: with a tick source phase-reset with the block, a dwell takes 600 x CLK_HZ/1000 clock edges, at every CLK_HZ. -/
def Obligations.DwellTakesClockRateEdges : Prop :=
  ∀ (s : State) (x : Sample) (rest : List Line), RunInv s → s.cnt = 600#10 →
    s.pending = tickTrain 600 Config.extraEdgesPerTick (some x) ++ rest →
    (∀ m, m < 600 * (Config.clkHz / 1000) → ∃ t, steps m s = .next t ∧ t.state = s.state ∧ t.road = s.road ∧ t.ped = s.ped) ∧
    ∃ t, steps (600 * (Config.clkHz / 1000)) s = .next t ∧ t.state = specWord s.state x ∧ t.cnt = 600#10 ∧ t.pending = rest

/-- The frame of every instruction: no meaning touches the input ports, the program or the counter; HOLD and OUTPUT keep both
registers, DWELL_COUNT keeps `state`, and only RESET sets the reset flag (R10, R70-R74). -/
def Obligations.FrameOfEveryInstruction : Prop :=
  ∀ (i : Instr) (s t : State), exec i s = .next t →
    (t.rst = s.rst ∧ t.tick = s.tick ∧ t.sensors = s.sensors ∧ t.pending = s.pending ∧ t.edge = s.edge) ∧
    (i ≠ .reset → t.init = s.init) ∧
    (i = .hold ∨ i = .output ∨ i = .dwellCount → t.state = s.state) ∧
    (i = .hold ∨ i = .output → t.cnt = s.cnt) ∧
    (s.init = true → t.road = roadOf t.state ∧ t.ped = pedOf t.state)

/-- The model's choice, log entry 16 (R70 and R74 read neither `tick` nor `sensors`): the dwell-view line `reset` sets the port
`rst` and leaves `tick` and `sensors`, and the line `output` (log entry 3) leaves all three; what the two lines change beside is
RESET's and OUTPUT's own. -/
def Obligations.ResetAndOutputLinesLeaveTheOtherPorts : Prop :=
  (∀ (s : State) (rest : List Line), s.pending = .reset :: rest →
    step s = .next { edgeState s true s.tick s.sensors rest with
      state := 0#4, cnt := 600#10, init := true, road := 0x0C#6, ped := 0x02#4 }) ∧
  (∀ (s : State) (rest : List Line), s.init = true → s.state ≤ 8#4 → s.pending = .output :: rest →
    step s = .next (driven (edgeState s s.rst s.tick s.sensors rest)))
end

