-- ==== Sys2Proof/Laws/State.lean ====
section
/-! SUPPORT. One lemma per field per update of the state, each true by unfolding the update. -/

namespace Sys2Proof.Machine

@[simp] theorem State.setLamps_state (s : State) (road : RoadCode) (ped : PedCode) :
    (s.setLamps road ped).state = s.state := rfl

@[simp] theorem State.setLamps_cnt (s : State) (road : RoadCode) (ped : PedCode) :
    (s.setLamps road ped).cnt = s.cnt := rfl

@[simp] theorem State.setLamps_init (s : State) (road : RoadCode) (ped : PedCode) :
    (s.setLamps road ped).init = s.init := rfl

@[simp] theorem State.setLamps_road (s : State) (road : RoadCode) (ped : PedCode) :
    (s.setLamps road ped).road = road := rfl

@[simp] theorem State.setLamps_ped (s : State) (road : RoadCode) (ped : PedCode) :
    (s.setLamps road ped).ped = ped := rfl

@[simp] theorem State.setLamps_rst (s : State) (road : RoadCode) (ped : PedCode) :
    (s.setLamps road ped).rst = s.rst := rfl

@[simp] theorem State.setLamps_tick (s : State) (road : RoadCode) (ped : PedCode) :
    (s.setLamps road ped).tick = s.tick := rfl

@[simp] theorem State.setLamps_sensors (s : State) (road : RoadCode) (ped : PedCode) :
    (s.setLamps road ped).sensors = s.sensors := rfl

@[simp] theorem State.setLamps_pending (s : State) (road : RoadCode) (ped : PedCode) :
    (s.setLamps road ped).pending = s.pending := rfl

@[simp] theorem State.setLamps_edge (s : State) (road : RoadCode) (ped : PedCode) :
    (s.setLamps road ped).edge = s.edge := rfl

@[simp] theorem State.setRegs_state (s : State) (state : StateCode) (cnt : Count) :
    (s.setRegs state cnt).state = state := rfl

@[simp] theorem State.setRegs_cnt (s : State) (state : StateCode) (cnt : Count) :
    (s.setRegs state cnt).cnt = cnt := rfl

@[simp] theorem State.setRegs_init (s : State) (state : StateCode) (cnt : Count) :
    (s.setRegs state cnt).init = s.init := rfl

@[simp] theorem State.setRegs_road (s : State) (state : StateCode) (cnt : Count) :
    (s.setRegs state cnt).road = s.road := rfl

@[simp] theorem State.setRegs_ped (s : State) (state : StateCode) (cnt : Count) :
    (s.setRegs state cnt).ped = s.ped := rfl

@[simp] theorem State.setRegs_rst (s : State) (state : StateCode) (cnt : Count) :
    (s.setRegs state cnt).rst = s.rst := rfl

@[simp] theorem State.setRegs_tick (s : State) (state : StateCode) (cnt : Count) :
    (s.setRegs state cnt).tick = s.tick := rfl

@[simp] theorem State.setRegs_sensors (s : State) (state : StateCode) (cnt : Count) :
    (s.setRegs state cnt).sensors = s.sensors := rfl

@[simp] theorem State.setRegs_pending (s : State) (state : StateCode) (cnt : Count) :
    (s.setRegs state cnt).pending = s.pending := rfl

@[simp] theorem State.setRegs_edge (s : State) (state : StateCode) (cnt : Count) :
    (s.setRegs state cnt).edge = s.edge := rfl

@[simp] theorem State.setInit_state (s : State) :
    (s.setInit).state = s.state := rfl

@[simp] theorem State.setInit_cnt (s : State) :
    (s.setInit).cnt = s.cnt := rfl

@[simp] theorem State.setInit_init (s : State) :
    (s.setInit).init = true := rfl

@[simp] theorem State.setInit_road (s : State) :
    (s.setInit).road = s.road := rfl

@[simp] theorem State.setInit_ped (s : State) :
    (s.setInit).ped = s.ped := rfl

@[simp] theorem State.setInit_rst (s : State) :
    (s.setInit).rst = s.rst := rfl

@[simp] theorem State.setInit_tick (s : State) :
    (s.setInit).tick = s.tick := rfl

@[simp] theorem State.setInit_sensors (s : State) :
    (s.setInit).sensors = s.sensors := rfl

@[simp] theorem State.setInit_pending (s : State) :
    (s.setInit).pending = s.pending := rfl

@[simp] theorem State.setInit_edge (s : State) :
    (s.setInit).edge = s.edge := rfl

@[simp] theorem State.setPorts_state (s : State) (rst tick : Bool) (sensors : Option Sample) :
    (s.setPorts rst tick sensors).state = s.state := rfl

@[simp] theorem State.setPorts_cnt (s : State) (rst tick : Bool) (sensors : Option Sample) :
    (s.setPorts rst tick sensors).cnt = s.cnt := rfl

@[simp] theorem State.setPorts_init (s : State) (rst tick : Bool) (sensors : Option Sample) :
    (s.setPorts rst tick sensors).init = s.init := rfl

@[simp] theorem State.setPorts_road (s : State) (rst tick : Bool) (sensors : Option Sample) :
    (s.setPorts rst tick sensors).road = s.road := rfl

@[simp] theorem State.setPorts_ped (s : State) (rst tick : Bool) (sensors : Option Sample) :
    (s.setPorts rst tick sensors).ped = s.ped := rfl

@[simp] theorem State.setPorts_rst (s : State) (rst tick : Bool) (sensors : Option Sample) :
    (s.setPorts rst tick sensors).rst = rst := rfl

@[simp] theorem State.setPorts_tick (s : State) (rst tick : Bool) (sensors : Option Sample) :
    (s.setPorts rst tick sensors).tick = tick := rfl

@[simp] theorem State.setPorts_sensors (s : State) (rst tick : Bool) (sensors : Option Sample) :
    (s.setPorts rst tick sensors).sensors = sensors := rfl

@[simp] theorem State.setPorts_pending (s : State) (rst tick : Bool) (sensors : Option Sample) :
    (s.setPorts rst tick sensors).pending = s.pending := rfl

@[simp] theorem State.setPorts_edge (s : State) (rst tick : Bool) (sensors : Option Sample) :
    (s.setPorts rst tick sensors).edge = s.edge := rfl

@[simp] theorem State.takeLine_state (s : State) :
    (s.takeLine).state = s.state := rfl

@[simp] theorem State.takeLine_cnt (s : State) :
    (s.takeLine).cnt = s.cnt := rfl

@[simp] theorem State.takeLine_init (s : State) :
    (s.takeLine).init = s.init := rfl

@[simp] theorem State.takeLine_road (s : State) :
    (s.takeLine).road = s.road := rfl

@[simp] theorem State.takeLine_ped (s : State) :
    (s.takeLine).ped = s.ped := rfl

@[simp] theorem State.takeLine_rst (s : State) :
    (s.takeLine).rst = s.rst := rfl

@[simp] theorem State.takeLine_tick (s : State) :
    (s.takeLine).tick = s.tick := rfl

@[simp] theorem State.takeLine_sensors (s : State) :
    (s.takeLine).sensors = s.sensors := rfl

@[simp] theorem State.takeLine_pending (s : State) :
    (s.takeLine).pending = s.pending.tail := rfl

@[simp] theorem State.takeLine_edge (s : State) :
    (s.takeLine).edge = s.edge + 1 := rfl

end Sys2Proof.Machine
end

