-- ==== Sys2Proof/Laws/Tables.lean ====
section
/-! SUPPORT. The build-time check of the tables passes (R122 step 1), and what a lookup in them can give. -/

namespace Sys2Proof.Machine

/-- The constant table passes the check a build makes (R34, R122). -/
theorem stateTable_wf : tableWf stateTable = true := by decide

/-- A state code selects an entry exactly when it is legal (R50, R51). -/
theorem rowAt_isSome_iff (c : StateCode) : (rowAt c).isSome = true ↔ c ≤ 8#4 := by
  revert c
  decide

theorem rowAt_eq_none_iff (c : StateCode) : rowAt c = none ↔ 8#4 < c := by
  revert c
  decide

/-- A legal code selects an entry, whose dwell is 600 (R89). -/
theorem rowAt_of_legal {c : StateCode} (h : c ≤ 8#4) : ∃ row, rowAt c = some row ∧ row.dwell = 600#10 := by
  revert c
  decide

theorem romImage_length : romImage.length = 72 := by decide

/-- Every used ROM word is a legal state code (R90). -/
theorem memRead_legal {c : StateCode} (h : c ≤ 8#4) (i : Sample) : memRead (romAddr c i) ≤ 8#4 := by
  have all : ∀ (c : StateCode) (i : Sample), c ≤ 8#4 → ∃ w, romImage[(romAddr c i).toNat]? = some w ∧ w ≤ 8#4 := by decide
  obtain ⟨w, hw, hle⟩ := all c i h
  simpa [memRead, hw] using hle

end Sys2Proof.Machine
end

