-- ==== Sys2Proof/Laws/Ops.lean ====
section
/-! SUPPORT. What each shared operation can do, said once: the checks, driving the outputs, the entry edge, the transition. -/

namespace Sys2Proof.Machine

theorem andThen_next_iff {r : Result} {k : State → Result} {t : State} :
    andThen r k = .next t ↔ ∃ s, r = .next s ∧ k s = .next t := by
  cases r <;> simp [andThen]

/-- On held values the checks pass (R75). -/
theorem checked_of_held {s : State} (h : Held s) (k : State → Result) : checked s k = k s := by
  obtain ⟨hi, hs, hc, hc'⟩ := h
  have a : stateIllegal s.state = false := by simpa [stateIllegal] using hs
  have b : countIllegal s.cnt = false := by
    simp only [countIllegal, Bool.or_eq_false_iff, beq_eq_false_iff_ne, decide_eq_false_iff_not]
    constructor <;> bv_omega
  simp [checked, hi, a, b]

/-- If the checks let a step go on, the values are held ones. -/
theorem checked_next {s t : State} {k : State → Result} (h : checked s k = .next t) : Held s ∧ k s = .next t := by
  unfold checked at h
  split at h <;> rename_i hi
  · cases h
  split at h <;> rename_i hs
  · cases h
  split at h <;> rename_i hc
  · cases h
  refine ⟨⟨by simpa using hi, by simpa [stateIllegal] using hs, ?_, ?_⟩, h⟩ <;>
    simp only [countIllegal, Bool.or_eq_true, beq_iff_eq, decide_eq_true_eq, not_or] at hc <;> bv_omega

theorem checked_noReset {s : State} (h : s.init = false) (k : State → Result) : checked s k = .fault .noReset := by
  simp [checked, h]

theorem checked_illegalState {s : State} (h : s.init = true) (hs : 8#4 < s.state) (k : State → Result) :
    checked s k = .fault (.illegalState s.state) := by
  simp [checked, h, stateIllegal, hs]

theorem checked_illegalCount {s : State} (h : s.init = true) (hs : s.state ≤ 8#4) (hc : s.cnt = 0#10 ∨ 600#10 < s.cnt)
    (k : State → Result) : checked s k = .fault (.illegalCount s.cnt) := by
  have a : stateIllegal s.state = false := by simpa [stateIllegal] using hs
  have b : countIllegal s.cnt = true := by simpa [countIllegal] using hc
  simp [checked, h, a, b]

/-- Driving the outputs of a legal state. -/
theorem emitCode_of_row {c : StateCode} {row : StateRow} (h : rowAt c = some row) (s : State) :
    emitCode c s = .next (s.setLamps row.road row.ped) := by
  simp [emitCode, h]

/-- Entering a legal state. -/
theorem enter_of_row {n : StateCode} {row : StateRow} (h : rowAt n = some row) (s : State) :
    enter n s = .next ((s.setRegs n row.dwell).setLamps row.road row.ped) := by
  simp [enter, h]

/-- All that driving the outputs can do: the lamps take the code's codes, nothing else changes. -/
theorem emitCode_next {c : StateCode} {s t : State} (h : emitCode c s = .next t) :
    ∃ row, rowAt c = some row ∧ t = s.setLamps row.road row.ped := by
  unfold emitCode at h
  split at h
  · rename_i row hr
    exact ⟨row, hr, by simpa using h.symm⟩
  · cases h

/-- All that an entry edge can do: the registers and the lamps are the entered state's, nothing else changes. -/
theorem enter_next {n : StateCode} {s t : State} (h : enter n s = .next t) :
    ∃ row, rowAt n = some row ∧ t = (s.setRegs n row.dwell).setLamps row.road row.ped := by
  unfold enter at h
  split at h
  · rename_i row hr
    exact ⟨row, hr, by simpa using h.symm⟩
  · cases h

/-- On a coherent state driving the outputs again changes nothing. -/
theorem emit_of_coherent {s : State} (h : Coherent s) : emit s = .next s := by
  have hc : (rowAt s.state).map (fun r => (r.road, r.ped)) = some (s.road, s.ped) := h
  cases hr : rowAt s.state with
  | none => simp [hr] at hc
  | some row =>
    simp only [hr, Option.map_some, Option.some.injEq, Prod.mk.injEq] at hc
    simp [emit, emitCode, hr, State.setLamps, hc.1, hc.2]

/-- The transition out of a legal state always enters some state. -/
theorem transitionFrom_of_legal {c : StateCode} (h : c ≤ 8#4) (s : State) :
    ∃ row, rowAt (memRead (romAddr c (captured s))) = some row ∧ row.dwell = 600#10 ∧
      transitionFrom c s = .next ((s.setRegs (memRead (romAddr c (captured s))) row.dwell).setLamps row.road row.ped) := by
  obtain ⟨row, hr, hd⟩ := rowAt_of_legal (memRead_legal h (captured s))
  exact ⟨row, hr, hd, enter_of_row hr s⟩

/-- An entry edge leaves a state that meets the invariant, once a reset has occurred. -/
theorem enter_inv {n : StateCode} {s t : State} (hi : s.init = true) (h : enter n s = .next t) : RunInv t := by
  obtain ⟨row, hr, rfl⟩ := enter_next h
  have hn : n ≤ 8#4 := (rowAt_isSome_iff n).1 (by simp [hr])
  obtain ⟨row', hr', hd⟩ := rowAt_of_legal hn
  obtain rfl : row = row' := by simpa [hr] using hr'
  exact ⟨⟨hi, hn, by simp [hd], by simp [hd]⟩, by simp [Coherent, hr]⟩

/-- Driving the outputs of the held state leaves a coherent state, with the registers as they were. -/
theorem emit_coherent {s t : State} (h : emit s = .next t) :
    Coherent t ∧ t.state = s.state ∧ t.cnt = s.cnt ∧ t.init = s.init := by
  obtain ⟨row, hr, rfl⟩ := emitCode_next h
  exact ⟨by simp [Coherent, hr], rfl, rfl, rfl⟩

/-- The state at an edge keeps the registers, the reset flag and the lamps (R6: an edge's reads see the values before it). -/
theorem atEdge_keeps (s : State) :
    (atEdge s).state = s.state ∧ (atEdge s).cnt = s.cnt ∧ (atEdge s).init = s.init ∧ (atEdge s).road = s.road ∧
      (atEdge s).ped = s.ped ∧ (atEdge s).pending = s.pending.tail ∧ (atEdge s).edge = s.edge + 1 := by
  unfold atEdge present
  split <;> simp

end Sys2Proof.Machine
end

