-- ==== Sys2Proof/Laws/Exec.lean ====
section
/-! SUPPORT. What `exec` and `step` can do, said once: each control arm as its shared operation, the outcomes a meaning can have,
and the step of each kind of program line. -/

namespace Sys2Proof.Machine

theorem exec_reset (s : State) : exec .reset s = enter 0#4 s.setInit := rfl

theorem exec_hold (s : State) : exec .hold s = checked s emit := rfl

theorem exec_dwellCount (s : State) :
    exec .dwellCount s = checked s (fun s => emit (s.setRegs s.state (s.cnt - 1#10))) := rfl

theorem exec_sampleTransition (s : State) :
    exec .sampleTransition s = checked s (fun s => transitionFrom s.state s) := rfl

theorem exec_output (s : State) :
    exec .output s =
      if s.init = false then .next (s.setLamps (Config.freeRoad s.edge) (Config.freePed s.edge)) else emit s := rfl

/-- A dwell cycle ends as its transition does: the outputs of the dwell give way to those of the entered state. -/
theorem dwellCycle_of_held {c : StateCode} (hc : c ≤ 8#4) {s : State} (h : Held s) : dwellCycle c s = transitionFrom c s := by
  obtain ⟨row, hr, -⟩ := rowAt_of_legal hc
  rw [dwellCycle, checked_of_held h, emitCode_of_row hr]
  obtain ⟨row', hr', -, e⟩ := transitionFrom_of_legal hc s
  rw [e]
  exact enter_of_row hr' _

/-- All that a meaning whose checks pass and which then enters a state can do. -/
theorem dwellCycle_next {c : StateCode} {s t : State} (h : dwellCycle c s = .next t) :
    Held s ∧ ∃ n, enter n s = .next t := by
  obtain ⟨hh, h⟩ := checked_next h
  obtain ⟨u, hu, ht⟩ := andThen_next_iff.1 h
  obtain ⟨row, -, rfl⟩ := emitCode_next hu
  obtain ⟨row', hr', rfl⟩ := enter_next ht
  exact ⟨hh, _, enter_of_row hr' s⟩

/-- What an instruction that answers a next state has done. -/
theorem exec_next {i : Instr} {s t : State} (h : exec i s = .next t) :
    (i = .reset ∧ enter 0#4 s.setInit = .next t) ∨
    (i = .hold ∧ Held s ∧ emit s = .next t) ∨
    (i = .dwellCount ∧ Held s ∧ emit (s.setRegs s.state (s.cnt - 1#10)) = .next t) ∨
    (i = .output ∧ s.init = true ∧ emit s = .next t) ∨
    (i = .output ∧ s.init = false ∧ t = s.setLamps (Config.freeRoad s.edge) (Config.freePed s.edge)) ∨
    (i ≠ .reset ∧ i ≠ .hold ∧ i ≠ .dwellCount ∧ i ≠ .output ∧ Held s ∧ ∃ n, enter n s = .next t) := by
  have stop : ∀ c, illegalCode c s ≠ .next t := by
    intro c hc
    unfold illegalCode at hc
    split at hc <;> cases hc
  have load : ∀ a, loadRomWord a s = .next t → Held s ∧ ∃ n, enter n s = .next t :=
    fun a ha => ⟨(checked_next ha).1, _, (checked_next ha).2⟩
  cases i
  case reset => exact .inl ⟨rfl, h⟩
  case hold => exact .inr (.inl ⟨rfl, checked_next h⟩)
  case dwellCount =>
    rw [exec_dwellCount] at h
    exact .inr (.inr (.inl ⟨rfl, checked_next h⟩))
  case output =>
    rw [exec_output] at h
    split at h <;> rename_i hi
    · exact .inr (.inr (.inr (.inr (.inl ⟨rfl, hi, by simpa using h.symm⟩))))
    · exact .inr (.inr (.inr (.inl ⟨rfl, by simpa using hi, h⟩)))
  case sampleTransition =>
    have := checked_next h
    exact .inr (.inr (.inr (.inr (.inr ⟨nofun, nofun, nofun, nofun, this.1, _, this.2⟩))))
  case illegalState1001 => exact absurd h (stop _)
  case illegalState101x => exact absurd h (stop _)
  case illegalState11xx => exact absurd h (stop _)
  all_goals
    refine .inr (.inr (.inr (.inr (.inr ⟨nofun, nofun, nofun, nofun, ?_⟩))))
    first
      | exact dwellCycle_next h
      | exact load _ h

/-- The step of a clock-view line. -/
theorem step_edge {s : State} {rst tick : Bool} {x : Option Sample} {rest : List Line}
    (h : s.pending = .edge rst tick x :: rest) :
    step s = exec (decodeControl (BitVec.ofBool rst ++ BitVec.ofBool tick ++ BitVec.ofBool (s.cnt == 1#10)))
      (s.takeLine.setPorts rst tick x) := by
  simp [step, fetch, fetchCode, atEdge, nextLine, h, present, codeOfLine, decode, controlSelect, lastTick]

/-- The step of a dwell-view line. -/
theorem step_sample {s : State} {x : Sample} {rest : List Line} (h : s.pending = .sample x :: rest) :
    step s = exec (decodeState s.state) (s.takeLine.setPorts false true (some x)) := by
  simp [step, fetch, fetchCode, atEdge, nextLine, h, present, codeOfLine, decode]

/-- The operation select in the order of R60. -/
theorem decodeControl_bits (r t l : Bool) :
    decodeControl (BitVec.ofBool r ++ BitVec.ofBool t ++ BitVec.ofBool l) =
      if r then .reset else if t = false then .hold else if l = false then .dwellCount else .sampleTransition := by
  revert r t l
  decide

end Sys2Proof.Machine
end

