-- ==== Sys2Proof/Laws/PerInstr.lean ====
section
/-! SUPPORT. The family OpcodeRows: the encoded word of every well-formed instruction is one its row of
spec/opcode_table.json accepts, one lemma per constructor. -/

/-- The encoder agrees with the table's columns match and mask (R50, R51, R57, R60). -/
def Sys2Proof.Laws.OpcodeRows.Statement (i : Sys2Proof.Instr) : Prop :=
  i.wf = true → (Sys2Proof.opcodeRow i).accepts (Sys2Proof.encode i) = true

namespace Sys2Proof.Laws.OpcodeRows

theorem reset : Statement .reset := fun _ => by decide
theorem hold : Statement .hold := fun _ => by decide
theorem dwellCount : Statement .dwellCount := fun _ => by decide
theorem sampleTransition : Statement .sampleTransition := fun _ => by decide
theorem output : Statement .output := fun _ => by decide
theorem goWest : Statement .goWest := fun _ => by decide
theorem waitWest : Statement .waitWest := fun _ => by decide
theorem goSouth : Statement .goSouth := fun _ => by decide
theorem waitSouth : Statement .waitSouth := fun _ => by decide
theorem goPed : Statement .goPed := fun _ => by decide
theorem flashPed1 : Statement .flashPed1 := fun _ => by decide
theorem flashPed2 : Statement .flashPed2 := fun _ => by decide
theorem flashPed3 : Statement .flashPed3 := fun _ => by decide
theorem flashPed4 : Statement .flashPed4 := fun _ => by decide
theorem illegalState1001 : Statement .illegalState1001 := fun _ => by decide

theorem illegalState101x (code : StateCode) : Statement (.illegalState101x code) := by
  revert code
  unfold Statement
  decide


theorem illegalState11xx (code : StateCode) : Statement (.illegalState11xx code) := by
  revert code
  unfold Statement
  decide

theorem goWestS0 : Statement .goWestS0 := fun _ => by decide
theorem goWestS1 : Statement .goWestS1 := fun _ => by decide
theorem goWestS2 : Statement .goWestS2 := fun _ => by decide
theorem goWestS3 : Statement .goWestS3 := fun _ => by decide
theorem goWestS4 : Statement .goWestS4 := fun _ => by decide
theorem goWestS5 : Statement .goWestS5 := fun _ => by decide
theorem goWestS6 : Statement .goWestS6 := fun _ => by decide
theorem goWestS7 : Statement .goWestS7 := fun _ => by decide
theorem waitWestS0 : Statement .waitWestS0 := fun _ => by decide
theorem waitWestS1 : Statement .waitWestS1 := fun _ => by decide
theorem waitWestS2 : Statement .waitWestS2 := fun _ => by decide
theorem waitWestS3 : Statement .waitWestS3 := fun _ => by decide
theorem waitWestS4 : Statement .waitWestS4 := fun _ => by decide
theorem waitWestS5 : Statement .waitWestS5 := fun _ => by decide
theorem waitWestS6 : Statement .waitWestS6 := fun _ => by decide
theorem waitWestS7 : Statement .waitWestS7 := fun _ => by decide
theorem goSouthS0 : Statement .goSouthS0 := fun _ => by decide
theorem goSouthS1 : Statement .goSouthS1 := fun _ => by decide
theorem goSouthS2 : Statement .goSouthS2 := fun _ => by decide
theorem goSouthS3 : Statement .goSouthS3 := fun _ => by decide
theorem goSouthS4 : Statement .goSouthS4 := fun _ => by decide
theorem goSouthS5 : Statement .goSouthS5 := fun _ => by decide
theorem goSouthS6 : Statement .goSouthS6 := fun _ => by decide
theorem goSouthS7 : Statement .goSouthS7 := fun _ => by decide
theorem waitSouthS0 : Statement .waitSouthS0 := fun _ => by decide
theorem waitSouthS1 : Statement .waitSouthS1 := fun _ => by decide
theorem waitSouthS2 : Statement .waitSouthS2 := fun _ => by decide
theorem waitSouthS3 : Statement .waitSouthS3 := fun _ => by decide
theorem waitSouthS4 : Statement .waitSouthS4 := fun _ => by decide
theorem waitSouthS5 : Statement .waitSouthS5 := fun _ => by decide
theorem waitSouthS6 : Statement .waitSouthS6 := fun _ => by decide
theorem waitSouthS7 : Statement .waitSouthS7 := fun _ => by decide
theorem goPedS0 : Statement .goPedS0 := fun _ => by decide
theorem goPedS1 : Statement .goPedS1 := fun _ => by decide
theorem goPedS2 : Statement .goPedS2 := fun _ => by decide
theorem goPedS3 : Statement .goPedS3 := fun _ => by decide
theorem goPedS4 : Statement .goPedS4 := fun _ => by decide
theorem goPedS5 : Statement .goPedS5 := fun _ => by decide
theorem goPedS6 : Statement .goPedS6 := fun _ => by decide
theorem goPedS7 : Statement .goPedS7 := fun _ => by decide
theorem flashPed1S0 : Statement .flashPed1S0 := fun _ => by decide
theorem flashPed1S1 : Statement .flashPed1S1 := fun _ => by decide
theorem flashPed1S2 : Statement .flashPed1S2 := fun _ => by decide
theorem flashPed1S3 : Statement .flashPed1S3 := fun _ => by decide
theorem flashPed1S4 : Statement .flashPed1S4 := fun _ => by decide
theorem flashPed1S5 : Statement .flashPed1S5 := fun _ => by decide
theorem flashPed1S6 : Statement .flashPed1S6 := fun _ => by decide
theorem flashPed1S7 : Statement .flashPed1S7 := fun _ => by decide
theorem flashPed2S0 : Statement .flashPed2S0 := fun _ => by decide
theorem flashPed2S1 : Statement .flashPed2S1 := fun _ => by decide
theorem flashPed2S2 : Statement .flashPed2S2 := fun _ => by decide
theorem flashPed2S3 : Statement .flashPed2S3 := fun _ => by decide
theorem flashPed2S4 : Statement .flashPed2S4 := fun _ => by decide
theorem flashPed2S5 : Statement .flashPed2S5 := fun _ => by decide
theorem flashPed2S6 : Statement .flashPed2S6 := fun _ => by decide
theorem flashPed2S7 : Statement .flashPed2S7 := fun _ => by decide
theorem flashPed3S0 : Statement .flashPed3S0 := fun _ => by decide
theorem flashPed3S1 : Statement .flashPed3S1 := fun _ => by decide
theorem flashPed3S2 : Statement .flashPed3S2 := fun _ => by decide
theorem flashPed3S3 : Statement .flashPed3S3 := fun _ => by decide
theorem flashPed3S4 : Statement .flashPed3S4 := fun _ => by decide
theorem flashPed3S5 : Statement .flashPed3S5 := fun _ => by decide
theorem flashPed3S6 : Statement .flashPed3S6 := fun _ => by decide
theorem flashPed3S7 : Statement .flashPed3S7 := fun _ => by decide
theorem flashPed4S0 : Statement .flashPed4S0 := fun _ => by decide
theorem flashPed4S1 : Statement .flashPed4S1 := fun _ => by decide
theorem flashPed4S2 : Statement .flashPed4S2 := fun _ => by decide
theorem flashPed4S3 : Statement .flashPed4S3 := fun _ => by decide
theorem flashPed4S4 : Statement .flashPed4S4 := fun _ => by decide
theorem flashPed4S5 : Statement .flashPed4S5 := fun _ => by decide
theorem flashPed4S6 : Statement .flashPed4S6 := fun _ => by decide
theorem flashPed4S7 : Statement .flashPed4S7 := fun _ => by decide

end Sys2Proof.Laws.OpcodeRows
end

