-- ==== Sys2Proof/Tests/Slice0.lean ====
section
/-! SUPPORT. The model's own tests: the smoke test of the build-time and well-formedness checks, every row's decoding from a word
written out, the spec's vectors (95_test_vectors.md), and a witness for the hypotheses of each statement. -/

open Sys2Proof Sys2Proof.Machine Sys2Proof.Claims

namespace Sys2Proof.Tests

/-! Well-formedness: each check refuses an ill-formed term. -/

theorem test_wf_refuses_101x : (Instr.illegalState101x 0b1001#4).wf = false := by decide

theorem test_wf_refuses_11xx : (Instr.illegalState11xx 0b1011#4).wf = false := by decide

theorem test_wf_takes_illegal : (Instr.illegalState101x 0b1011#4).wf = true ∧ (Instr.illegalState11xx 0b1110#4).wf = true := by
  decide

/-- A word outside 0..8 (R34). -/
theorem test_table_refuses_word_nine :
    tableWf ({ goWestRow with next := [0, 0, 1, 1, 1, 1, 1, 9] } :: stateTable.tail) = false := by decide

/-- A row of seven words (R16: "an 8-entry next-state table"). -/
theorem test_table_refuses_short_row :
    tableWf ({ goWestRow with next := [0, 0, 1, 1, 1, 1, 1] } :: stateTable.tail) = false := by decide

/-- A dwell of 599 (R59, R89). -/
theorem test_table_refuses_dwell : tableWf ({ goWestRow with dwell := 599#10 } :: stateTable.tail) = false := by decide

/-- A wrong output code (R122 step 1). -/
theorem test_table_refuses_codes : tableWf ({ goWestRow with road := 0x0D#6 } :: stateTable.tail) = false := by decide

/-- Eight states (R4: N_STATES 9). -/
theorem test_table_refuses_eight_states : tableWf stateTable.tail = false := by decide

/-! Decoding: every constructor from a word written out from the spec's encoding (R50, R51, R57, R60). -/

/-- Every pair's word decodes to the pair's instruction. -/
def decodesAll (l : List (Code × Instr)) : Bool :=
  l.all fun p => match decode p.1 with
    | .ok i => i == p.2
    | .error _ => false

theorem test_decode_control : decodesAll
    [(.control 0b100, .reset), (.control 0b101, .reset), (.control 0b110, .reset), (.control 0b111, .reset),
     (.control 0b000, .hold), (.control 0b001, .hold), (.control 0b010, .dwellCount), (.control 0b011, .sampleTransition),
     (.combinational 0b000, .output), (.combinational 0b101, .output)] = true := by decide

theorem test_decode_states : decodesAll
    [(.stateCode 0b0000, .goWest), (.stateCode 0b0001, .waitWest), (.stateCode 0b0010, .goSouth),
     (.stateCode 0b0011, .waitSouth), (.stateCode 0b0100, .goPed), (.stateCode 0b0101, .flashPed1),
     (.stateCode 0b0110, .flashPed2), (.stateCode 0b0111, .flashPed3), (.stateCode 0b1000, .flashPed4),
     (.stateCode 0b1001, .illegalState1001), (.stateCode 0b1010, .illegalState101x 0b1010),
     (.stateCode 0b1011, .illegalState101x 0b1011), (.stateCode 0b1100, .illegalState11xx 0b1100),
     (.stateCode 0b1111, .illegalState11xx 0b1111)] = true := by decide

theorem test_decode_GoWest : decodesAll
    [(.romWord 0b0000000, .goWestS0), (.romWord 0b0000001, .goWestS1), (.romWord 0b0000010, .goWestS2), (.romWord 0b0000011, .goWestS3),
     (.romWord 0b0000100, .goWestS4), (.romWord 0b0000101, .goWestS5), (.romWord 0b0000110, .goWestS6), (.romWord 0b0000111, .goWestS7)] = true := by decide

theorem test_decode_WaitWest : decodesAll
    [(.romWord 0b0001000, .waitWestS0), (.romWord 0b0001001, .waitWestS1), (.romWord 0b0001010, .waitWestS2), (.romWord 0b0001011, .waitWestS3),
     (.romWord 0b0001100, .waitWestS4), (.romWord 0b0001101, .waitWestS5), (.romWord 0b0001110, .waitWestS6), (.romWord 0b0001111, .waitWestS7)] = true := by decide

theorem test_decode_GoSouth : decodesAll
    [(.romWord 0b0010000, .goSouthS0), (.romWord 0b0010001, .goSouthS1), (.romWord 0b0010010, .goSouthS2), (.romWord 0b0010011, .goSouthS3),
     (.romWord 0b0010100, .goSouthS4), (.romWord 0b0010101, .goSouthS5), (.romWord 0b0010110, .goSouthS6), (.romWord 0b0010111, .goSouthS7)] = true := by decide

theorem test_decode_WaitSouth : decodesAll
    [(.romWord 0b0011000, .waitSouthS0), (.romWord 0b0011001, .waitSouthS1), (.romWord 0b0011010, .waitSouthS2), (.romWord 0b0011011, .waitSouthS3),
     (.romWord 0b0011100, .waitSouthS4), (.romWord 0b0011101, .waitSouthS5), (.romWord 0b0011110, .waitSouthS6), (.romWord 0b0011111, .waitSouthS7)] = true := by decide

theorem test_decode_GoPed : decodesAll
    [(.romWord 0b0100000, .goPedS0), (.romWord 0b0100001, .goPedS1), (.romWord 0b0100010, .goPedS2), (.romWord 0b0100011, .goPedS3),
     (.romWord 0b0100100, .goPedS4), (.romWord 0b0100101, .goPedS5), (.romWord 0b0100110, .goPedS6), (.romWord 0b0100111, .goPedS7)] = true := by decide

theorem test_decode_FlashPed1 : decodesAll
    [(.romWord 0b0101000, .flashPed1S0), (.romWord 0b0101001, .flashPed1S1), (.romWord 0b0101010, .flashPed1S2), (.romWord 0b0101011, .flashPed1S3),
     (.romWord 0b0101100, .flashPed1S4), (.romWord 0b0101101, .flashPed1S5), (.romWord 0b0101110, .flashPed1S6), (.romWord 0b0101111, .flashPed1S7)] = true := by decide

theorem test_decode_FlashPed2 : decodesAll
    [(.romWord 0b0110000, .flashPed2S0), (.romWord 0b0110001, .flashPed2S1), (.romWord 0b0110010, .flashPed2S2), (.romWord 0b0110011, .flashPed2S3),
     (.romWord 0b0110100, .flashPed2S4), (.romWord 0b0110101, .flashPed2S5), (.romWord 0b0110110, .flashPed2S6), (.romWord 0b0110111, .flashPed2S7)] = true := by decide

theorem test_decode_FlashPed3 : decodesAll
    [(.romWord 0b0111000, .flashPed3S0), (.romWord 0b0111001, .flashPed3S1), (.romWord 0b0111010, .flashPed3S2), (.romWord 0b0111011, .flashPed3S3),
     (.romWord 0b0111100, .flashPed3S4), (.romWord 0b0111101, .flashPed3S5), (.romWord 0b0111110, .flashPed3S6), (.romWord 0b0111111, .flashPed3S7)] = true := by decide

theorem test_decode_FlashPed4 : decodesAll
    [(.romWord 0b1000000, .flashPed4S0), (.romWord 0b1000001, .flashPed4S1), (.romWord 0b1000010, .flashPed4S2), (.romWord 0b1000011, .flashPed4S3),
     (.romWord 0b1000100, .flashPed4S4), (.romWord 0b1000101, .flashPed4S5), (.romWord 0b1000110, .flashPed4S6), (.romWord 0b1000111, .flashPed4S7)] = true := by decide

/-- R43: an unused address is rejected by name. -/
theorem test_decode_unused : decode (.romWord 0x48#7) = .error (.unusedRomAddress 0x48#7) ∧
    decode (.romWord 0x7F#7) = .error (.unusedRomAddress 0x7F#7) := by decide

/-- The host's table words: one byte is a ROM address, two bytes the state code FlashPed4. -/
theorem test_table_words : decodeTableWord 8 2 = some .goWestS2 ∧ decodeTableWord 8 71 = some .flashPed4S7 ∧
    decodeTableWord 8 72 = none ∧ decodeTableWord 3 4 = some .reset ∧ decodeTableWord 4 4 = some .goPed ∧
    decodeTableWord 16 8 = some .flashPed4 := by decide

/-! One step on a small state. -/

/-- A state after reset with the given registers and one line to run. -/
def at1 (state : StateCode) (cnt : Count) (l : Line) : State :=
  { State.reset with state := state, cnt := cnt, pending := [l] }

/-- A state before any reset edge with one line to run. -/
def cold (l : Line) : State := { State.reset with init := false, pending := [l] }

/-- A clock-view line with the given inputs. -/
def inp (rst tick : Bool) (i : Sample) : Line := .edge rst tick (some i)

/-- Registers and outputs of a next state. -/
def seen (r : Result) : Option (StateCode × Count × RoadCode × PedCode) :=
  match r with
  | .next s => some (s.state, s.cnt, s.road, s.ped)
  | .fault _ => none
  | .refused _ => none

/-- The fault of a result. -/
def faultOf (r : Result) : Option Fault :=
  match r with
  | .next _ => none
  | .fault f => some f
  | .refused _ => none

/-- The host's placed word runs as the first instruction after reset: GoWest, sample 2 (V3). -/
theorem test_placed_word_runs : seen (step (State.reset.withFetchWord 8 2)) = some (1, 600, 0x14, 0x02) := by decide

theorem test_placed_control_runs : seen (step (State.reset.withFetchWord 3 0b011)) = some (0, 600, 0x0C, 0x02) ∧
    seen (step (State.reset.withFetchWord 3 0b010)) = some (0, 599, 0x0C, 0x02) := by decide

/-- The vectors K1 to K8, K16 to K23 of 95_test_vectors.md 2.2, with the outputs of O1 to O9. -/
theorem test_k1 : seen (step (at1 0 600 (inp false true 0))) = some (0, 599, 0x0C, 0x02) := by decide

theorem test_k2 : seen (step (at1 0 2 (inp false true 7))) = some (0, 1, 0x0C, 0x02) := by decide

theorem test_k3 : seen (step (at1 0 1 (inp false true 0))) = some (0, 600, 0x0C, 0x02) := by decide

theorem test_k4 : seen (step (at1 0 1 (inp false true 2))) = some (1, 600, 0x14, 0x02) := by decide

theorem test_k5 : seen (step (at1 0 1 (inp false false 2))) = some (0, 1, 0x0C, 0x02) := by decide

theorem test_k6 : seen (step (at1 2 17 (inp false false 5))) = some (2, 17, 0x21, 0x02) := by decide

theorem test_k7 : seen (step (at1 6 1 (inp true true 7))) = some (0, 600, 0x0C, 0x02) := by decide

theorem test_k8 : seen (step (at1 4 300 (inp true false 0))) = some (0, 600, 0x0C, 0x02) := by decide

theorem test_k9 : seen (step { State.powerOn with pending := [inp true false 0] }) = some (0, 600, 0x0C, 0x02) := by
  rw [step_edge (rst := true) (tick := false) (x := some 0) (rest := []) rfl, decodeControl_bits]
  rfl

theorem test_k10 : faultOf (step { State.powerOn with pending := [inp false true 0] }) = some .noReset := by
  rw [step_edge (rst := false) (tick := true) (x := some 0) (rest := []) rfl, decodeControl_bits]
  cases (State.powerOn.cnt == 1#10) <;> rfl

theorem test_k11 : faultOf (step (at1 12 5 (inp false true 0))) = some (.illegalState 12) := by decide

theorem test_k12 : seen (step (at1 12 5 (inp true false 0))) = some (0, 600, 0x0C, 0x02) := by decide

theorem test_k13 : faultOf (step (at1 3 0 (inp false true 0))) = some (.illegalCount 0) := by decide

theorem test_k14 : faultOf (step (at1 3 601 (inp false false 0))) = some (.illegalCount 601) := by decide

theorem test_k15 : faultOf (step (at1 9 0 (inp false true 0))) = some (.illegalState 9) := by decide

theorem test_k16 : seen (step (at1 5 1 (inp false true 3))) = some (6, 600, 0x24, 0x00) := by decide

theorem test_k17 : seen (step (at1 8 1 (inp false true 6))) = some (2, 600, 0x21, 0x02) := by decide

theorem test_k18 : seen (step (at1 1 1 (inp false true 0))) = some (2, 600, 0x21, 0x02) := by decide

theorem test_k19 : seen (step (at1 1 1 (inp false true 1))) = some (0, 600, 0x0C, 0x02) := by decide

theorem test_k20 : seen (step (at1 4 1 (inp false true 4))) = some (4, 600, 0x24, 0x08) := by decide

theorem test_k21 : seen (step (at1 3 1 (inp false true 7))) = some (4, 600, 0x24, 0x08) := by decide

theorem test_k22 : seen (step (at1 2 1 (inp false true 6))) = some (2, 600, 0x21, 0x02) := by decide

theorem test_k23 : seen (step (at1 7 600 (inp false true 0))) = some (7, 599, 0x24, 0x02) := by decide

/-- O2, O4, O5, O10, O11 of 95_test_vectors.md 2.1. -/
theorem test_output_vectors : seen (step (at1 1 9 .output)) = some (1, 9, 0x14, 0x02) ∧
    seen (step (at1 3 9 .output)) = some (3, 9, 0x22, 0x02) ∧ seen (step (at1 4 9 .output)) = some (4, 9, 0x24, 0x08) ∧
    faultOf (step (at1 9 9 .output)) = some (.illegalState 9) ∧
    faultOf (step (at1 15 9 .output)) = some (.illegalState 15) := by decide

/-- The dwell view: P2 rows 2 and 8, P3 rows 3 and 7 (95_test_vectors.md section 3). -/
theorem test_dwell_view : seen (step (at1 1 600 (.sample 4))) = some (4, 600, 0x24, 0x08) ∧
    seen (step (at1 8 600 (.sample 4))) = some (4, 600, 0x24, 0x08) := by decide

theorem test_dwell_view_traffic : seen (step (at1 1 600 (.sample 1))) = some (0, 600, 0x0C, 0x02) ∧
    seen (step (at1 2 600 (.sample 5))) = some (3, 600, 0x22, 0x02) ∧
    seen (step (at1 6 600 .reset)) = some (0, 600, 0x0C, 0x02) := by decide

/-- The five cells where the table wins over the prose (90_conflicts.md C1-C5), as ROM words: V9, V10, V23, V32, V71. -/
theorem test_conflict_cells : seen (step (at1 1 1 (.word 0))) = some (2, 600, 0x21, 0x02) ∧
    seen (step (at1 1 1 (.word 1))) = some (0, 600, 0x0C, 0x02) := by decide

theorem test_conflict_cells_pedestrian : seen (step (at1 2 1 (.word 6))) = some (2, 600, 0x21, 0x02) ∧
    seen (step (at1 3 1 (.word 7))) = some (4, 600, 0x24, 0x08) ∧
    seen (step (at1 8 1 (.word 6))) = some (2, 600, 0x21, 0x02) := by decide

/-- The words of P4 and P5 (95_test_vectors.md section 3). -/
theorem test_line_words : edgeLine 0b11000#5 = inp true true 0 ∧ edgeLine 0b01010#5 = inp false true 2 ∧
    edgeLine 0b00101#5 = inp false false 5 ∧ edgeWord (inp false true 1) = some 0b01001#5 := by decide

/-- The sample's bits (R52): 6 is a pedestrian and an NS car. -/
theorem test_sample_bits : pedRequest 6 = true ∧ nsCar 6 = true ∧ ewCar 6 = false := by decide

/-! Witnesses: for each statement with hypotheses, values that meet them together; for several clauses one witness each. -/

/-- A state that meets the invariant, in state `c` with count `n`, and a program. -/
def ok (c : StateCode) (n : Count) (p : List Line) : State :=
  { State.reset with state := c, cnt := n, road := roadOf c, ped := pedOf c, pending := p }

/-- `n` ticks and a hold: a program of edges without reset. -/
def runOf (n : Nat) : List Line := List.replicate n (inp false true 0) ++ [inp false false 7]

theorem runOf_plain (n : Nat) : ∀ l ∈ runOf n, isPlainEdge l = true := by
  intro l hl
  simp only [runOf, List.mem_append, List.mem_replicate, List.mem_singleton] at hl
  rcases hl with ⟨-, rfl⟩ | rfl <;> rfl

theorem runOf_ticks (n : Nat) : ticks (runOf n) = n := by
  simp [runOf, inp, ticks, isTick]

theorem witness_ResetLoadsGoWestFromAnyValues :
    (ok 6 1 [inp true true 7]).pending = .edge true true (some 7) :: [] ∧ (ok 6 1 [.reset]).pending = .reset :: [] ∧
    (ok 6 1 [inp true true 7, inp true false 0]).pending = .edge true true (some 7) :: .edge true false (some 0) :: [] := by
  decide

theorem witness_HoldKeepsBothRegisters : Held (ok 8 600 []) ∧ RunInv (ok 8 1 []) ∧
    ((ok 9 1 []).init = true ∧ 8#4 < (ok 9 1 []).state) ∧
    ((ok 8 601 []).init = true ∧ (ok 8 601 []).state ≤ 8#4 ∧ ((ok 8 601 []).cnt = 0#10 ∨ 600#10 < (ok 8 601 []).cnt)) ∧
    (Held (ok 8 1 [inp false false 3]) ∧ (ok 8 1 [inp false false 3]).pending = .edge false false (some 3) :: []) := by decide

theorem witness_HoldKeepsBothRegisters_program :
    RunInv (ok 0 1 [inp false false 1, inp false false 2]) ∧
    (∀ l ∈ [inp false false 1, inp false false 2], ∃ x, l = Line.edge false false x) := by
  refine ⟨by decide, ?_⟩
  simp [inp]

theorem witness_DwellCountCountsOneTick : (Held (ok 8 2 []) ∧ (ok 8 2 []).cnt ≠ 1#10) ∧
    ((ok 8 0 []).init = true ∧ (ok 8 0 []).state ≤ 8#4 ∧ ((ok 8 0 []).cnt = 0#10 ∨ 600#10 < (ok 8 0 []).cnt)) ∧
    (Held (ok 0 600 [inp false true 5]) ∧ (ok 0 600 [inp false true 5]).cnt ≠ 1#10 ∧
      (ok 0 600 [inp false true 5]).pending = .edge false true (some 5) :: []) := by decide

theorem witness_SampleTransitionLoadsTheRomWord :
    (Held { ok 8 1 [] with sensors := some 7 } ∧ (ok 8 1 []).cnt = 1#10) ∧
    ((ok 15 1 []).init = true ∧ 8#4 < (ok 15 1 []).state) ∧
    (Held (ok 0 1 [inp false true 2]) ∧ (ok 0 1 [inp false true 2]).pending = .edge false true (some 2) :: []) ∧
    (RunInv { ok 4 1 [] with sensors := some 4 } ∧ specWord (ok 4 1 []).state 4 = (ok 4 1 []).state) := by decide

theorem witness_OutputDrivesTheCodesOfTheState : ((ok 8 1 []).init = true ∧ (ok 8 1 []).state ≤ 8#4) ∧
    ((ok 9 1 []).init = true ∧ 8#4 < (ok 9 1 []).state) := by decide

theorem witness_OutputDrivesTheCodesOfTheState_step :
    ∃ t, RunInv (ok 4 1 [inp false true 0]) ∧ step (ok 4 1 [inp false true 0]) = .next t ∧
      t.state = (ok 4 1 [inp false true 0]).state :=
  ⟨_, by decide, rfl, by decide⟩

theorem witness_RuleGoWest : (ok 0 1 []).state = 0#4 ∧ (ok 0 1 []).init = true ∧
    Held { ok 0 600 [] with sensors := some 0 } ∧ (ok 0 600 []).cnt = 600#10 ∧
    Held { ok 0 1 [] with sensors := some 7 } ∧ (ok 0 1 []).cnt = 1#10 := by decide

theorem witness_RuleWaitWest : (ok 1 1 []).state = 1#4 ∧ (ok 1 1 []).init = true ∧
    Held { ok 1 600 [] with sensors := some 0 } ∧ (ok 1 600 []).cnt = 600#10 ∧
    Held { ok 1 1 [] with sensors := some 7 } ∧ (ok 1 1 []).cnt = 1#10 := by decide

theorem witness_RuleGoSouth : (ok 2 1 []).state = 2#4 ∧ (ok 2 1 []).init = true ∧
    Held { ok 2 600 [] with sensors := some 0 } ∧ (ok 2 600 []).cnt = 600#10 ∧
    Held { ok 2 1 [] with sensors := some 7 } ∧ (ok 2 1 []).cnt = 1#10 := by decide

theorem witness_RuleWaitSouth : (ok 3 1 []).state = 3#4 ∧ (ok 3 1 []).init = true ∧
    Held { ok 3 600 [] with sensors := some 0 } ∧ (ok 3 600 []).cnt = 600#10 ∧
    Held { ok 3 1 [] with sensors := some 7 } ∧ (ok 3 1 []).cnt = 1#10 := by decide

theorem witness_RuleGoPed : (ok 4 1 []).state = 4#4 ∧ (ok 4 1 []).init = true ∧
    Held { ok 4 600 [] with sensors := some 0 } ∧ (ok 4 600 []).cnt = 600#10 ∧
    Held { ok 4 1 [] with sensors := some 7 } ∧ (ok 4 1 []).cnt = 1#10 := by decide

theorem witness_RuleFlashPed1 : (ok 5 1 []).state = 5#4 ∧ (ok 5 1 []).init = true ∧
    Held { ok 5 600 [] with sensors := some 0 } ∧ (ok 5 600 []).cnt = 600#10 ∧
    Held { ok 5 1 [] with sensors := some 7 } ∧ (ok 5 1 []).cnt = 1#10 := by decide

theorem witness_RuleFlashPed2 : (ok 6 1 []).state = 6#4 ∧ (ok 6 1 []).init = true ∧
    Held { ok 6 600 [] with sensors := some 0 } ∧ (ok 6 600 []).cnt = 600#10 ∧
    Held { ok 6 1 [] with sensors := some 7 } ∧ (ok 6 1 []).cnt = 1#10 := by decide

theorem witness_RuleFlashPed3 : (ok 7 1 []).state = 7#4 ∧ (ok 7 1 []).init = true ∧
    Held { ok 7 600 [] with sensors := some 0 } ∧ (ok 7 600 []).cnt = 600#10 ∧
    Held { ok 7 1 [] with sensors := some 7 } ∧ (ok 7 1 []).cnt = 1#10 := by decide

theorem witness_RuleFlashPed4 : (ok 8 1 []).state = 8#4 ∧ (ok 8 1 []).init = true ∧
    Held { ok 8 600 [] with sensors := some 0 } ∧ (ok 8 600 []).cnt = 600#10 ∧
    Held { ok 8 1 [] with sensors := some 7 } ∧ (ok 8 1 []).cnt = 1#10 := by decide

theorem witness_EveryEdgeIsTheClockStep : (ok 7 1 [inp false true 7]).pending = .edge false true (some 7) :: [] := by decide

theorem witness_UnspokenEdgeTakesFreeInputs : State.reset.pending = [] := by decide

theorem witness_IllegalStateCodesStop : State.reset.init = true ∧ 0b1011#4 &&& 0b1110#4 = 0b1010#4 ∧
    0b1100#4 &&& 0b1100#4 = 0b1100#4 ∧ 8#4 < 9#4 ∧
    ((ok 9 1 [.word 7]).init = true ∧ 8#4 < (ok 9 1 [.word 7]).state ∧ (atEdge (ok 9 1 [.word 7])).rst = false) := by decide

theorem witness_IllegalStateCodesStop_step : ∃ t, (ok 8 1 [inp false true 0]).state ≤ 8#4 ∧ step (ok 8 1 [inp false true 0]) = .next t :=
  ⟨_, by decide, rfl⟩

theorem witness_RomAddressIsStateThenSample : (8#4 : StateCode) ≤ 8#4 := by decide

theorem witness_RomImageIsRuleThirtyTwo : (0x47#7 : RomAddr).toNat < 72 ∧ (8#4 : StateCode) ≤ 8#4 := by decide

theorem witness_TableIsClosedWithDwellSixHundred : (8#4 : StateCode) ≤ 8#4 := by decide

theorem witness_MalformedTablesAreRejected :
    ({ goWestRow with next := [9] } ∈ [{ goWestRow with next := [9] }] ∧ (9 : RomWord) ∈ ([9] : List RomWord) ∧
      8#4 < (9 : RomWord)) ∧
    (goWestRow.next.tail.length ≠ 8) ∧ ({ goWestRow with dwell := 601#10 } : StateRow).dwell ≠ 600#10 := by decide

theorem witness_MalformedTablesAreRejected_codes : stateTable.tail.length ≠ 9 ∧
    (([{ goWestRow with road := 0x0D#6 }] : List StateRow)[0]? = some { goWestRow with road := 0x0D#6 } ∧
      (0x0D#6 : RoadCode) ≠ specRoad.getD 0 0) ∧
    ((stateTable.take 8 ++ [{ goWestRow with ped := 0x01#4 }])[8]? = some { goWestRow with ped := 0x01#4 } ∧
      (0x01#4 : PedCode) ≠ specPed.getD 8 0) := by decide

theorem witness_EveryStepKeepsTheInvariant :
    ∃ t, StepInv (ok 3 2 [inp false true 0]) ∧ step (ok 3 2 [inp false true 0]) = .next t :=
  ⟨_, by decide, rfl⟩

theorem witness_RangesHoldFromEveryResetEdge :
    ∃ t, (ok 12 0 [inp true true 0, inp false true 0]).pending = .edge true true (some 0) :: [inp false true 0] ∧
      steps 2 (ok 12 0 [inp true true 0, inp false true 0]) = .next t :=
  ⟨_, by decide, rfl⟩

theorem witness_NoRunStopsAfterReset : RunInv (ok 8 600 []) := by decide

theorem witness_FaultsAreTheThreeOfRuleOneHundredOne :
    step (cold (inp false true 0)) = .fault .noReset ∧
    step (at1 12 5 (inp false true 0)) = .fault (.illegalState 12) ∧
    step (at1 3 601 (inp false false 0)) = .fault (.illegalCount 601) :=
  ⟨rfl, rfl, rfl⟩

theorem witness_NoStepBeforeTheFirstReset :
    ((cold (inp false true 0)).init = false ∧ (cold (inp false true 0)).pending = .edge false true (some 0) :: []) ∧
    ((cold (.sample 3)).init = false ∧ (cold (.sample 3)).pending = .sample 3 :: []) ∧
    ((cold (.word 3)).init = false ∧ (cold (.word 3)).pending = .word 3 :: []) := by decide

theorem witness_OutputBeforeResetIsFree : (cold .output).init = false := by decide

theorem witness_StepRunsTheDecodedInstruction :
    decode (fetchCode (ok 0 1 [inp false true 2])) = .ok .sampleTransition ∧
    decode (fetchCode (ok 8 600 [.sample 2])) = .ok .flashPed4 ∧
    decode (fetchCode (ok 8 1 [.word 7])) = .ok .flashPed4S7 ∧ decode (fetchCode (ok 8 1 [.output])) = .ok .output := by decide

theorem witness_DecodeOfEncodeIsTheInstruction : (Instr.illegalState101x 0b1011#4).wf = true := by decide

theorem witness_DecodedInstructionIsInItsRow : decode (.romWord 0x47#7) = .ok .flashPed4S7 := by decide

theorem witness_TransitionRowsAgree : Held { ok 8 1 [] with sensors := some 7 } ∧
    decode (.romWord (romAddr (ok 8 1 []).state (captured { ok 8 1 [] with sensors := some 7 }))) = .ok .flashPed4S7 := by decide

theorem witness_DwellViewAgreesWithClockView :
    RunInv (ok 1 600 (runOf 599 ++ [inp false true 4])) ∧ (ok 1 600 (runOf 599 ++ [inp false true 4])).cnt = 600#10 ∧
    (∀ l ∈ runOf 599, isPlainEdge l = true) ∧ ticks (runOf 599) = 599 ∧
    (ok 1 600 (runOf 599 ++ [inp false true 4])).pending = runOf 599 ++ .edge false true (some 4) :: [] :=
  ⟨by decide, rfl, runOf_plain 599, runOf_ticks 599, rfl⟩

theorem witness_DwellIsSixHundredTicks :
    RunInv (ok 1 600 (runOf 599 ++ [inp false true 4])) ∧ (∀ l ∈ runOf 599, isPlainEdge l = true) ∧ ticks (runOf 599) ≤ 599 ∧
    (ok 1 600 (runOf 599 ++ [inp false true 4])).pending = runOf 599 ++ .edge false true (some 4) :: [] :=
  ⟨by decide, runOf_plain 599, by rw [runOf_ticks], rfl⟩

/-- The entry edge of FlashPed1 with `n` ticks before one more line. -/
def flashIn (n : Nat) (l : Line) : State := ok 5 600 (runOf n ++ [l])

theorem flashIn_inv (n : Nat) (l : Line) : RunInv (flashIn n l) :=
  ⟨⟨rfl, show 5#4 ≤ 8#4 by decide, show 1#10 ≤ 600#10 by decide, show 600#10 ≤ 600#10 by decide⟩, rfl⟩

theorem witness_FlashTakesTwentyFourHundredTicks :
    RunInv (flashIn 599 (inp false true 4)) ∧ (flashIn 599 (inp false true 4)).state = 5#4 ∧
    (flashIn 599 (inp false true 4)).cnt = 600#10 ∧ (∀ l ∈ runOf 599, isPlainEdge l = true) ∧ ticks (runOf 599) < 2400 ∧
    (flashIn 599 (inp false true 4)).pending = runOf 599 ++ [inp false true 4] :=
  ⟨flashIn_inv _ _, rfl, rfl, runOf_plain 599, by rw [runOf_ticks]; decide, rfl⟩

/-- Where the state has changed, at 600 ticks. -/
theorem witness_FlashTakesTwentyFourHundredTicks_600 :
    RunInv (flashIn 600 (inp false true 4)) ∧ (flashIn 600 (inp false true 4)).state = 5#4 ∧
    (flashIn 600 (inp false true 4)).cnt = 600#10 ∧ (∀ l ∈ runOf 600, isPlainEdge l = true) ∧ ticks (runOf 600) < 2400 ∧
    (flashIn 600 (inp false true 4)).pending = runOf 600 ++ [inp false true 4] :=
  ⟨flashIn_inv _ _, rfl, rfl, runOf_plain 600, by rw [runOf_ticks]; decide, rfl⟩

/-- The last tick of the flash, and the 2400th tick edge with a stable sample. -/
theorem witness_FlashTakesTwentyFourHundredTicks_2399 :
    RunInv (flashIn 2399 (inp false true 4)) ∧ (flashIn 2399 (inp false true 4)).state = 5#4 ∧
    (flashIn 2399 (inp false true 4)).cnt = 600#10 ∧ (∀ l ∈ runOf 2399, isPlainEdge l = true) ∧
    ticks (runOf 2399) < 2400 ∧ ticks (runOf 2399) = 2399 ∧ [inp false true 4] = .edge false true (some 4) :: [] ∧
    (flashIn 2399 (inp false true 4)).pending = runOf 2399 ++ [inp false true 4] :=
  ⟨flashIn_inv _ _, rfl, rfl, runOf_plain 2399, by rw [runOf_ticks]; decide, runOf_ticks 2399, rfl, rfl⟩

theorem witness_FirstSampleIsAtTheSixHundredthTick :
    (∀ l ∈ runOf 599, isPlainEdge l = true) ∧ ticks (runOf 599) = 599 ∧ ticks (runOf 599) ≤ 599 ∧
    (ok 7 3 (inp true false 0 :: (runOf 599 ++ [inp false true 4]))).pending =
      .edge true false (some 0) :: (runOf 599 ++ .edge false true (some 4) :: []) :=
  ⟨runOf_plain 599, runOf_ticks 599, by rw [runOf_ticks], rfl⟩

theorem witness_SensorsMatterOnlyAtTheTransitionEdge :
    ∃ t, ¬ (false = false ∧ true = true ∧ (ok 2 2 []).cnt = 1#10) ∧
      step { ok 2 2 [] with pending := .edge false true (some 1) :: [] } = .next t :=
  ⟨_, by decide, rfl⟩

theorem witness_UnstableSensorsGiveAFreeSample :
    Held (ok 2 1 [.edge false true none]) ∧ (ok 2 1 [.edge false true none]).cnt = 1#10 ∧
    (ok 2 1 [.edge false true none]).pending = .edge false true none :: [] := by decide

theorem witness_EveryStateIsReachedAndTheFlashIsFixed : (8#4 : StateCode) ≤ 8#4 ∧
    RunInv (ok 5 600 [.sample 7, .sample 0, .sample 3]) ∧ (ok 5 600 [.sample 7, .sample 0, .sample 3]).state = 5#4 ∧
    (ok 5 600 [.sample 7, .sample 0, .sample 3]).pending = .sample 7 :: .sample 0 :: .sample 3 :: [] := by decide

theorem witness_LampsAreSafe : (RunInv (ok 4 1 []) ∧ (ok 4 1 []).ped = 0x08#4) ∧ RunInv (ok 3 1 []) ∧
    (RunInv (ok 8 1 []) ∧ 4#4 ≤ (ok 8 1 []).state) ∧ (Held (ok 3 1 []) ∧ (ok 3 1 []).state = 3#4) ∧
    (Held (ok 1 1 []) ∧ (ok 1 1 []).state = 1#4) ∧ (Held (ok 0 1 []) ∧ (ok 0 1 []).state = 0#4) ∧
    (Held (ok 2 1 []) ∧ (ok 2 1 []).state = 2#4) := by decide

theorem witness_OnlyTheProducibleCodesAreDriven :
    ∃ t, RunInv (ok 1 1 [inp false true 5]) ∧ step (ok 1 1 [inp false true 5]) = .next t :=
  ⟨_, by decide, rfl⟩

theorem witness_OnlyTransitionsAndResetWriteState :
    ∃ t, (ok 0 1 [inp false true 2]).pending = .edge false true (some 2) :: [] ∧ step (ok 0 1 [inp false true 2]) = .next t ∧
      t.state ≠ (ok 0 1 [inp false true 2]).state :=
  ⟨_, by decide, rfl, by decide⟩

theorem witness_DecrementNeverWraps :
    ∃ t, fetch (ok 0 2 [inp false true 0]) = .dwellCount ∧ step (ok 0 2 [inp false true 0]) = .next t :=
  ⟨_, by decide, rfl⟩

theorem witness_DwellTakesClockRateEdges :
    RunInv (ok 1 600 (tickTrain 600 Config.extraEdgesPerTick (some 4) ++ [])) ∧
    (ok 1 600 (tickTrain 600 Config.extraEdgesPerTick (some 4) ++ [])).cnt = 600#10 ∧
    (ok 1 600 (tickTrain 600 Config.extraEdgesPerTick (some 4) ++ [])).pending =
      tickTrain 600 Config.extraEdgesPerTick (some 4) ++ [] :=
  ⟨by decide, rfl, rfl⟩

theorem witness_FrameOfEveryInstruction : ∃ t, exec .hold (ok 1 5 []) = .next t := ⟨_, rfl⟩

theorem witness_ResetAndOutputLinesLeaveTheOtherPorts : (ok 6 1 [.reset]).pending = .reset :: [] ∧
    (ok 8 1 [.output]).init = true ∧ (ok 8 1 [.output]).state ≤ 8#4 ∧ (ok 8 1 [.output]).pending = .output :: [] := by decide

end Sys2Proof.Tests
end

section
/-! PROOFS. The build check of the constant tables as a list of conditions, and what a step fetches and runs (O23, O31). -/

open Sys2Proof Sys2Proof.Machine Sys2Proof.Claims

namespace Sys2Proof.Scope

/-- A next-state row's check: its length and its words (R34, R58). -/
theorem nextRowWf_iff (next : List RomWord) : nextRowWf next = true ↔ next.length = 8 ∧ ∀ w ∈ next, w ≤ 8#4 := by
  simp [nextRowWf]

/-- The build check, condition by condition (R34, R122). -/
theorem tableWf_iff (table : List StateRow) :
    tableWf table = true ↔
      table.length = 9 ∧ (∀ r ∈ table, nextRowWf r.next = true) ∧ (∀ r ∈ table, r.dwell = 600#10) ∧
        table.map (fun r => (r.road, r.ped)) = outputCodes := by
  simp [tableWf, Config.nStates, Config.dwellTicks, BitVec.toNat_eq]

/-- The code pairs the build check wants are the spec's two columns of codes (R54, R56). -/
theorem outputCodes_eq_zip : outputCodes = specRoad.zip specPed := rfl

/-- In a table that passes the build check the entry at an index has that state's codes. -/
theorem codes_of_tableWf {table : List StateRow} (h : tableWf table = true) {k : Nat} {r : StateRow}
    (hr : table[k]? = some r) : r.road = specRoad.getD k 0 ∧ r.ped = specPed.getD k 0 := by
  obtain ⟨-, -, -, hcodes⟩ := (tableWf_iff table).1 h
  have hpair : (specRoad.zip specPed)[k]? = some (r.road, r.ped) := by
    rw [← outputCodes_eq_zip, ← hcodes, List.getElem?_map, hr, Option.map_some]
  obtain ⟨hroad, hped⟩ := List.getElem?_zip_eq_some.1 hpair
  simp [List.getD_eq_getElem?_getD, hroad, hped]

/-- A step runs what the decoder reads off its word. -/
theorem fetch_of_decode {s : State} {i : Instr} (h : decode (fetchCode s) = .ok i) : fetch s = i := by
  simp [fetch, h]

/-- A clock-view line fetches the operation select (R60). -/
theorem fetchCode_edge {s : State} {rst tick : Bool} {x : Option Sample} {rest : List Line}
    (h : s.pending = .edge rst tick x :: rest) :
    fetchCode s = .control (BitVec.ofBool rst ++ BitVec.ofBool tick ++ BitVec.ofBool (s.cnt == 1#10)) := by
  simp [fetchCode, atEdge, nextLine, h, present, codeOfLine, controlSelect, lastTick]

/-- A dwell-view line fetches the held state's code (R50, R76). -/
theorem fetchCode_sample {s : State} {x : Sample} {rest : List Line} (h : s.pending = .sample x :: rest) :
    fetchCode s = .stateCode s.state := by
  simp [fetchCode, atEdge, nextLine, h, present, codeOfLine]

/-- The model's line `word` fetches the ROM address of the held state and its sample (R31; log entry 3). -/
theorem fetchCode_word {s : State} {x : Sample} {rest : List Line} (h : s.pending = .word x :: rest) :
    fetchCode s = .romWord (romAddr s.state x) := by
  simp [fetchCode, atEdge, nextLine, h, present, codeOfLine]

/-- The state at an edge is the held one but for the input ports, the line taken and the counter (R6). -/
theorem atEdge_eq (s : State) : atEdge s = { s with
    rst := (atEdge s).rst, tick := (atEdge s).tick, sensors := (atEdge s).sensors,
    pending := s.pending.tail, edge := s.edge + 1 } := by
  unfold atEdge
  cases nextLine s <;> rfl

/-- Settles O23: each malformed table contradicts one condition of `tableWf_iff`. -/
theorem malformedTablesAreRejected : Obligations.MalformedTablesAreRejected := by
  refine ⟨stateTable_wf, fun table r w hr hw hlt => ?word, fun table r hr hlen => ?rowLength,
    fun table r hr hdwell => ?dwell, fun table hlen => ?rows, fun table k r hr hcode => ?codes⟩ <;>
    refine Bool.eq_false_iff.2 fun hwf => ?_ <;>
    obtain ⟨hrows, hnext, hdwells, -⟩ := (tableWf_iff table).1 hwf
  case word =>
    obtain ⟨-, hwords⟩ := (nextRowWf_iff r.next).1 (hnext r hr)
    exact BitVec.not_le.2 hlt (hwords w hw)
  case rowLength => exact hlen ((nextRowWf_iff r.next).1 (hnext r hr)).1
  case dwell => exact hdwell (hdwells r hr)
  case rows => exact hlen hrows
  case codes =>
    obtain ⟨hroad, hped⟩ := codes_of_tableWf hwf hr
    exact hcode.elim (· hroad) (· hped)

/-- Settles O31: the decoder's answer is what `fetch` runs, and each line's word is read off the state at its edge. -/
theorem stepRunsTheDecodedInstruction : Obligations.StepRunsTheDecodedInstruction := by
  refine ⟨fun s i h => ?_, atEdge_eq, fun _ _ _ _ _ => fetchCode_edge, fun _ _ _ => fetchCode_sample,
    fun _ _ _ => fetchCode_word⟩
  rw [step, fetch_of_decode h]

end Sys2Proof.Scope
end

section
/-! PROOFS. The invariant of every step, the frame of every instruction, what runs before the first reset edge, and which
edges write the state register (O24, O25, O26, O29, O44, O48). -/

open Sys2Proof Sys2Proof.Machine Sys2Proof.Claims Sys2Proof.Scope

namespace Sys2Proof.Invariant

/-! What a step fetches. -/

/-- The operations of an edge and OUTPUT, which no state code and no ROM address selects (R60). -/
def controlInstrs : List Instr := [.reset, .hold, .dwellCount, .sampleTransition, .output]

theorem decodeState_not_control : ∀ c : StateCode, decodeState c ∉ controlInstrs := by decide

theorem romInstrs_not_control : ∀ i ∈ romInstrs, i ∉ controlInstrs := by decide

theorem decodeRom_not_control {a : RomAddr} {i : Instr} (h : decodeRom a = .ok i) : i ∉ controlInstrs := by
  unfold decodeRom at h
  split at h <;> rename_i hrow
  · cases h
    exact romInstrs_not_control _ (List.mem_of_getElem? hrow)
  · cases h

/-- A ROM address selects a ROM row, or none and the held state's row runs. -/
theorem fetch_romWord_not_control {s : State} {a : RomAddr} (h : fetchCode s = .romWord a) : fetch s ∉ controlInstrs := by
  unfold fetch
  rw [h, decode]
  split <;> rename_i hd
  · exact decodeRom_not_control hd
  · exact decodeState_not_control _

theorem fetch_stateCode_not_control {s : State} {c : StateCode} (h : fetchCode s = .stateCode c) :
    fetch s ∉ controlInstrs := by
  have hd : decode (fetchCode s) = .ok (decodeState c) := by rw [h, decode]
  exact fetch_of_decode hd ▸ decodeState_not_control c

/-- The operation of a control word, in the order of R60. -/
theorem fetch_controlSelect {s : State} (h : fetchCode s = .control (controlSelect (atEdge s))) :
    fetch s = if (atEdge s).rst then .reset else if (atEdge s).tick = false then .hold
      else if (s.cnt == 1#10) = false then .dwellCount else .sampleTransition := by
  obtain ⟨-, hcnt, -⟩ := atEdge_keeps s
  rw [← hcnt, ← decodeControl_bits]
  exact fetch_of_decode (by rw [h, decode]; rfl)

/-- The operation of a clock-view line, in the order of R60. -/
theorem fetch_edge {s : State} {rst tick : Bool} {x : Option Sample} {rest : List Line}
    (h : s.pending = .edge rst tick x :: rest) :
    fetch s = if rst then .reset else if tick = false then .hold
      else if (s.cnt == 1#10) = false then .dwellCount else .sampleTransition := by
  rw [← decodeControl_bits]
  exact fetch_of_decode (by rw [fetchCode_edge h, decode])

/-- No step selects DWELL_COUNT at a count of 1 (R60, R78). -/
theorem cnt_ne_one_of_fetch_dwellCount {s : State} (h : fetch s = .dwellCount) : s.cnt ≠ 1#10 := by
  intro hone
  have control (hc : fetchCode s = .control (controlSelect (atEdge s))) : False := by
    rw [fetch_controlSelect hc, hone] at h
    split_ifs at h
    contradiction
  have hmem : fetch s ∈ controlInstrs := by simp [h, controlInstrs]
  have hcode : fetchCode s = codeOfLine (nextLine s) (atEdge s) := rfl
  cases hl : nextLine s <;> rw [hl] at hcode
  case edge => exact control hcode
  case reset => exact control hcode
  case sample => exact fetch_stateCode_not_control hcode hmem
  case word => exact fetch_romWord_not_control hcode hmem
  case output =>
    have : fetch s = .output := fetch_of_decode (by rw [hcode]; rfl)
    simp [this] at h

/-! What an instruction leaves. -/

/-- Every entry's dwell is 600 (R89). -/
theorem dwell_of_rowAt {c : StateCode} {row : StateRow} (h : rowAt c = some row) : row.dwell = 600#10 := by
  obtain ⟨row', hrow', hdwell⟩ := rowAt_of_legal ((rowAt_isSome_iff c).1 (by simp [h]))
  simpa [Option.some.inj (h.symm.trans hrow')] using hdwell

/-- Ports that show the held state's codes show the spec's literals (R54, R56). -/
theorem codes_of_coherent {t : State} (h : Coherent t) : t.road = roadOf t.state ∧ t.ped = pedOf t.state := by
  obtain ⟨row, hrow, hcodes⟩ := Option.map_eq_some_iff.1 h
  obtain ⟨hroad, hped⟩ := codes_of_tableWf stateTable_wf hrow
  obtain ⟨eroad, eped⟩ := Prod.mk.inj hcodes
  exact ⟨eroad ▸ hroad, eped ▸ hped⟩

/-- After a reset edge every meaning leaves the outputs of the state it leaves (R70, R75). -/
theorem exec_coherent {i : Instr} {s t : State} (hinit : s.init = true) (h : exec i s = .next t) : Coherent t := by
  obtain ⟨-, h⟩ | ⟨-, -, h⟩ | ⟨-, -, h⟩ | ⟨-, -, h⟩ | ⟨-, hfree, -⟩ | ⟨-, -, -, -, -, n, h⟩ := exec_next h
  case inl => exact (enter_inv (by simp) h).2
  case inr.inl | inr.inr.inl | inr.inr.inr.inl => exact (emit_coherent h).1
  case inr.inr.inr.inr.inl => simp [hinit] at hfree
  case inr.inr.inr.inr.inr => exact (enter_inv hinit h).2

/-- Settles O48: the registers, the flag and the ports of each case of `exec_next`. -/
theorem frameOfEveryInstruction : Obligations.FrameOfEveryInstruction := by
  intro i s t h
  simp only [← and_assoc]
  refine ⟨?_, fun hinit => codes_of_coherent (exec_coherent hinit h)⟩
  obtain ⟨rfl, hdo⟩ | ⟨rfl, -, hdo⟩ | ⟨rfl, -, hdo⟩ | ⟨rfl, -, hdo⟩ | ⟨rfl, -, rfl⟩ | ⟨hr, hh, hd, ho, -, n, hdo⟩ := exec_next h
  case inl =>
    obtain ⟨row, -, rfl⟩ := enter_next hdo
    simp
  case inr.inl | inr.inr.inl | inr.inr.inr.inl =>
    obtain ⟨row, -, rfl⟩ := emitCode_next hdo
    simp
  case inr.inr.inr.inr.inl => simp
  case inr.inr.inr.inr.inr =>
    obtain ⟨row, -, rfl⟩ := enter_next hdo
    simp [hh, hd, ho]

/-! The invariant. -/

/-- One tick of a dwell that has more than one to go keeps the count legal (R78). -/
theorem count_legal_sub_one {v : Count} (hpos : 1#10 ≤ v) (hle : v ≤ 600#10) (hne : v ≠ 1#10) :
    1#10 ≤ v - 1#10 ∧ v - 1#10 ≤ 600#10 := by
  constructor <;> bv_omega

/-- Every meaning keeps the invariant, DWELL_COUNT where the edge selects it. -/
theorem exec_stepInv {i : Instr} {s t : State} (hinv : StepInv s) (hcount : i = .dwellCount → s.cnt ≠ 1#10)
    (h : exec i s = .next t) : StepInv t := by
  intro htrue
  obtain ⟨-, h⟩ | ⟨-, hheld, h⟩ | ⟨hi, hheld, h⟩ | ⟨-, hinit, h⟩ | ⟨-, hfree, rfl⟩ | ⟨-, -, -, -, hheld, n, h⟩ := exec_next h
  case inl => exact enter_inv (by simp) h
  case inr.inl =>
    obtain ⟨hcoh, hstate, hcnt, -⟩ := emit_coherent h
    exact ⟨⟨htrue, hstate ▸ hheld.2.1, hcnt ▸ hheld.2.2⟩, hcoh⟩
  case inr.inr.inl =>
    obtain ⟨-, hlegal, hpos, hle⟩ := hheld
    obtain ⟨hcoh, hstate, hcnt, -⟩ := emit_coherent h
    rw [State.setRegs_state] at hstate
    rw [State.setRegs_cnt] at hcnt
    exact ⟨⟨htrue, hstate ▸ hlegal, hcnt ▸ count_legal_sub_one hpos hle (hcount hi)⟩, hcoh⟩
  case inr.inr.inr.inl =>
    obtain ⟨⟨-, hlegal, hcount⟩, -⟩ := hinv hinit
    obtain ⟨hcoh, hstate, hcnt, -⟩ := emit_coherent h
    exact ⟨⟨htrue, hstate ▸ hlegal, hcnt ▸ hcount⟩, hcoh⟩
  case inr.inr.inr.inr.inl => simp [hfree] at htrue
  case inr.inr.inr.inr.inr => exact enter_inv hheld.1 h

/-- An edge's inputs are no part of the invariant. -/
theorem atEdge_stepInv {s : State} (h : StepInv s) : StepInv (atEdge s) := by
  obtain ⟨hstate, hcnt, hinit, hroad, hped, -, -⟩ := atEdge_keeps s
  simpa only [StepInv, RunInv, Held, Coherent, hstate, hcnt, hinit, hroad, hped] using h

/-- Settles O24: each meaning keeps the invariant, and no step selects DWELL_COUNT at a count of 1. -/
theorem everyStepKeepsTheInvariant : Obligations.EveryStepKeepsTheInvariant := by
  intro s t hinv h
  obtain ⟨-, hcnt, -⟩ := atEdge_keeps s
  exact exec_stepInv (atEdge_stepInv hinv) (fun hfetch => hcnt ▸ cnt_ne_one_of_fetch_dwellCount hfetch) h

/-- No step clears the flag of R75. -/
theorem step_init {s t : State} (hinit : s.init = true) (h : step s = .next t) : t.init = true := by
  obtain ⟨-, -, hat, -⟩ := atEdge_keeps s
  by_cases hreset : fetch s = .reset
  · rw [step, hreset, exec_reset] at h
    exact (enter_inv (by simp) h).1.1
  · obtain ⟨-, hkeep, -⟩ := frameOfEveryInstruction _ _ _ h
    rw [hkeep hreset, hat, hinit]

theorem step_runInv {s t : State} (hinv : RunInv s) (h : step s = .next t) : RunInv t :=
  everyStepKeepsTheInvariant s t (fun _ => hinv) h (step_init hinv.1.1 h)

/-- What every step keeps, every run keeps. -/
theorem steps_induction {P : State → Prop} (keep : ∀ s t, P s → step s = .next t → P t) {n : Nat} {s t : State}
    (hs : P s) (h : steps n s = .next t) : P t := by
  induction n generalizing s with
  | zero =>
    cases h
    exact hs
  | succ n ih =>
    obtain ⟨u, hu, ht⟩ := andThen_next_iff.1 h
    exact ih (keep s u hs hu) ht

/-- A reset edge takes place whatever is held, and leads to the invariant (R74, R22). -/
theorem step_resetEdge {s : State} {tick : Bool} {x : Option Sample} {rest : List Line}
    (h : s.pending = .edge true tick x :: rest) : ∃ t, step s = .next t ∧ RunInv t := by
  obtain ⟨row, hrow, -⟩ := rowAt_of_legal (c := 0#4) (by decide)
  have hstep : step s = enter 0#4 (atEdge s).setInit := by
    rw [step, fetch_edge h, if_pos rfl, exec_reset]
  exact ⟨_, hstep.trans (enter_of_row hrow _), enter_inv (by simp) (enter_of_row hrow _)⟩

/-- Settles O26: the reset edge leads to the invariant, and every further step keeps it. -/
theorem rangesHoldFromEveryResetEdge : Obligations.RangesHoldFromEveryResetEdge := by
  intro s t tick x rest n hpending h
  obtain ⟨u, hu, hinv⟩ := step_resetEdge hpending
  rw [steps, hu] at h
  obtain ⟨⟨-, hranges⟩, -⟩ := steps_induction (fun _ _ => step_runInv) hinv h
  exact hranges

/-- Settles O25: the reset state's values, and a power-on flag that is false. -/
theorem resetStateMeetsTheInvariant : Obligations.ResetStateMeetsTheInvariant :=
  ⟨rfl, rfl, rfl, rfl, by decide, nofun⟩

/-! Before the first reset edge. -/

/-- Before the first reset edge every meaning but RESET and OUTPUT stops with NoReset (R21, R103). -/
theorem exec_noReset {i : Instr} {s : State} (hinit : s.init = false) (hreset : i ≠ .reset) (houtput : i ≠ .output) :
    exec i s = .fault .noReset := by
  have stop (c : StateCode) : illegalCode c s = .fault .noReset := by simp [illegalCode, hinit]
  have cycle (c : StateCode) : dwellCycle c s = .fault .noReset := checked_noReset hinit _
  cases i
  case reset => contradiction
  case output => contradiction
  case dwellCount =>
    rw [exec_dwellCount]
    exact checked_noReset hinit _
  case goWest | waitWest | goSouth | waitSouth | goPed | flashPed1 | flashPed2 | flashPed3 | flashPed4 => exact cycle _
  case illegalState1001 | illegalState101x | illegalState11xx => exact stop _
  all_goals exact checked_noReset hinit _

theorem step_noReset {s : State} (hinit : s.init = false) (hreset : fetch s ≠ .reset) (houtput : fetch s ≠ .output) :
    step s = .fault .noReset := by
  obtain ⟨-, -, hat, -⟩ := atEdge_keeps s
  exact exec_noReset (hat.trans hinit) hreset houtput

theorem step_noReset_of_not_control {s : State} (hinit : s.init = false) (h : fetch s ∉ controlInstrs) :
    step s = .fault .noReset := by
  refine step_noReset hinit ?_ ?_ <;> intro hfetch <;> simp [hfetch, controlInstrs] at h

/-- Settles O29: no line but a reset edge and `output` selects RESET or OUTPUT. -/
theorem noStepBeforeTheFirstReset : Obligations.NoStepBeforeTheFirstReset := by
  refine ⟨rfl, fun s tick x rest hinit h => ?edge, fun s x rest hinit h => ?dwell, fun _ _ _ => step_resetEdge rfl⟩
  case edge =>
    have hfetch := fetch_edge h
    rw [if_neg Bool.false_ne_true] at hfetch
    refine step_noReset hinit ?_ ?_ <;> rw [hfetch] <;> split_ifs <;> nofun
  case dwell =>
    refine step_noReset_of_not_control hinit ?_
    obtain h | h := h
    · exact fetch_stateCode_not_control (fetchCode_sample h)
    · exact fetch_romWord_not_control (fetchCode_word h)

/-! Which edges write the state register. -/

/-- Where SAMPLE_TRANSITION answers, a full dwell begins (R72, R89). -/
theorem exec_sampleTransition_cnt {s t : State} (h : exec .sampleTransition s = .next t) : t.cnt = 600#10 := by
  obtain ⟨-, htrans⟩ := checked_next h
  obtain ⟨row, hrow, rfl⟩ := enter_next htrans
  exact dwell_of_rowAt hrow

/-- Settles O44: HOLD and DWELL_COUNT keep `state` by their frame, so the edge selected SAMPLE_TRANSITION. -/
theorem onlyTransitionsAndResetWriteState : Obligations.OnlyTransitionsAndResetWriteState := by
  intro s t tick x rest hpending h hne
  obtain ⟨hstate, -⟩ := atEdge_keeps s
  obtain ⟨-, -, hkeep, -⟩ := frameOfEveryInstruction _ _ _ h
  have hhold : fetch s ≠ .hold := fun hf => hne ((hkeep (.inl hf)).trans hstate)
  have hdwell : fetch s ≠ .dwellCount := fun hf => hne ((hkeep (.inr (.inr hf))).trans hstate)
  have hfetch := fetch_edge hpending
  rw [if_neg Bool.false_ne_true] at hfetch
  split_ifs at hfetch with htick hcnt
  · exact absurd hfetch hhold
  · exact absurd hfetch hdwell
  · rw [step, hfetch] at h
    exact ⟨hfetch, by simpa using htick, by simpa using hcnt, exec_sampleTransition_cnt h⟩

end Sys2Proof.Invariant
end

section
/-! PROOFS. The ROM and its addresses, the rows the decoder answers with, and the edges at which `sensors` matters
(O18, O20, O21, O33, O39). -/

open Sys2Proof Sys2Proof.Machine Sys2Proof.Claims

namespace Sys2Proof.Memory

/-! The ROM. -/

/-- The address as a number (R31). -/
theorem romAddr_toNat (c : StateCode) (x : Sample) : (romAddr c x).toNat = 8 * c.toNat + x.toNat := by
  rw [romAddr, BitVec.toNat_append, ← Nat.shiftLeft_add_eq_or_of_lt x.isLt, Nat.shiftLeft_eq, Nat.mul_comm]

/-- A legal state forms a used address only (R31, R32). -/
theorem romAddr_toNat_lt {c : StateCode} (h : c ≤ 8#4) (x : Sample) : (romAddr c x).toNat < 72 := by
  rw [romAddr_toNat]
  bv_omega

/-- The table's rows in address order are the literal image of R32. -/
theorem romImage_eq_specRom : romImage = specRom := by decide

/-- A used address holds the literal word (R32). -/
theorem memRead_of_used {a : RomAddr} (h : a.toNat < 72) : memRead a = specRom.getD a.toNat 0 := by
  have hlt : a.toNat < specRom.length := h
  simp only [memRead, romImage_eq_specRom, List.getElem?_eq_getElem hlt, List.getD_eq_getElem _ _ hlt]

/-- A legal state reads its own word for the sample (R31, R72). -/
theorem memRead_romAddr {c : StateCode} (h : c ≤ 8#4) (x : Sample) : memRead (romAddr c x) = specWord c x := by
  rw [memRead_of_used (romAddr_toNat_lt h x), romAddr_toNat, specWord]

/-- Settles O21: the model's image is the literal one, and a legal state forms used addresses only. -/
theorem romImageIsRuleThirtyTwo : Obligations.RomImageIsRuleThirtyTwo :=
  ⟨fun _ => memRead_of_used, fun _ x h => romAddr_toNat_lt h x⟩

/-- Settles O20: the value and the two fields of a concatenation, and the image at a legal state's address. -/
theorem romAddressIsStateThenSample : Obligations.RomAddressIsStateThenSample :=
  ⟨fun c x => ⟨romAddr_toNat c x, BitVec.extractLsb'_append_eq_left, BitVec.extractLsb'_append_eq_right⟩,
    fun _ x h => ⟨Nat.le_of_lt_succ (romAddr_toNat_lt h x), memRead_romAddr h x⟩⟩

/-! The decoder. -/

theorem decodeControl_in_row : ∀ w : BitVec 3,
    (decodeControl w).wf = true ∧ (opcodeRow (decodeControl w)).accepts (.control w) = true := by decide

theorem output_in_row : ∀ w : BitVec 3, (opcodeRow .output).accepts (.combinational w) = true := by decide

theorem decodeState_in_row : ∀ c : StateCode,
    (decodeState c).wf = true ∧ (opcodeRow (decodeState c)).accepts (.stateCode c) = true := by decide

theorem romInstrs_length : romInstrs.length = 72 := by decide

theorem romInstrs_wf : ∀ i ∈ romInstrs, i.wf = true := by decide

/-- The row of the opcode table that wants all seven bits of one ROM address (R57). -/
def romRow (a : RomAddr) : OpcodeRow := ⟨.romWord, 0x7F#7, a⟩

theorem romRow_accepts (a : RomAddr) : (romRow a).accepts (.romWord a) = true := by
  have hmask : a &&& 0x7F#7 = a := BitVec.and_allOnes
  simp [OpcodeRow.accepts, romRow, Code.format, Code.bits, hmask]

/-- The opcode table's ROM rows stand in address order (R57). -/
theorem opcodeRow_romInstrs : romInstrs.map opcodeRow = (List.range 72).map (fun k => romRow (BitVec.ofNat 7 k)) := by
  decide

theorem decodeRom_ok_iff (a : RomAddr) (i : Instr) : decodeRom a = .ok i ↔ romInstrs[a.toNat]? = some i := by
  unfold decodeRom
  split <;> rename_i hrow <;> simp [hrow]

/-- The decoder rejects the unused addresses and no others (R43). -/
theorem decodeRom_error_iff (a : RomAddr) : (∃ e, decodeRom a = .error e) ↔ 72 ≤ a.toNat := by
  rw [← romInstrs_length, ← List.getElem?_eq_none_iff]
  unfold decodeRom
  split <;> rename_i hrow <;> simp [hrow]

/-- The instruction of an address has that address's row. -/
theorem opcodeRow_of_decodeRom {a : RomAddr} {i : Instr} (h : decodeRom a = .ok i) : opcodeRow i = romRow a := by
  have hi := (decodeRom_ok_iff a i).1 h
  have hlt : a.toNat < 72 := romInstrs_length ▸ (List.getElem?_eq_some_iff.1 hi).1
  have hrow := congrArg (·[a.toNat]?) opcodeRow_romInstrs
  simpa [hi, hlt] using hrow

theorem decodeRom_in_row {a : RomAddr} {i : Instr} (h : decodeRom a = .ok i) :
    i.wf = true ∧ (opcodeRow i).accepts (.romWord a) = true :=
  ⟨romInstrs_wf i (List.mem_of_getElem? ((decodeRom_ok_iff a i).1 h)), opcodeRow_of_decodeRom h ▸ romRow_accepts a⟩

/-- Settles O33: format by format; only the ROM format has addresses with no row. -/
theorem decodedInstructionIsInItsRow : Obligations.DecodedInstructionIsInItsRow := by
  refine ⟨fun c i h => ?inRow, fun c => ?rejects⟩
  case inRow =>
    cases c with
    | control w =>
      cases h
      exact decodeControl_in_row w
    | combinational w =>
      cases h
      exact ⟨rfl, output_in_row w⟩
    | stateCode c =>
      cases h
      exact decodeState_in_row c
    | romWord a => exact decodeRom_in_row h
  case rejects =>
    cases c with
    | control | combinational | stateCode => simp [decode]
    | romWord a => simpa [decode] using decodeRom_error_iff a

/-- Settles O18: the decoder evaluated at each word. -/
theorem wordsWrittenOutDecode : Obligations.WordsWrittenOutDecode :=
  ⟨rfl, rfl, rfl, rfl, rfl, rfl, rfl, rfl, rfl, rfl, rfl⟩

/-! The input `sensors`. -/

/-- Driving outputs reads no sample. -/
theorem emitCode_withSensors {c : StateCode} {s t : State} (h : emitCode c s = .next t) (y : Option Sample) :
    emitCode c { s with sensors := y } = .next { t with sensors := y } := by
  obtain ⟨row, hrow, rfl⟩ := emitCode_next h
  exact emitCode_of_row hrow _

/-- An entry edge into a given state reads no sample. -/
theorem enter_withSensors {n : StateCode} {s t : State} (h : enter n s = .next t) (y : Option Sample) :
    enter n { s with sensors := y } = .next { t with sensors := y } := by
  obtain ⟨row, hrow, rfl⟩ := enter_next h
  exact enter_of_row hrow _

/-- The checks read no sample: an operation that goes on after them alike does alike (R75). -/
theorem checked_withSensors {k : State → Result} {s t : State} {y : Option Sample} (h : checked s k = .next t)
    (hk : k s = .next t → k { s with sensors := y } = .next { t with sensors := y }) :
    checked { s with sensors := y } k = .next { t with sensors := y } := by
  obtain ⟨hheld, hgo⟩ := checked_next h
  exact (checked_of_held (s := { s with sensors := y }) hheld k).trans (hk hgo)

/-- RESET, HOLD and DWELL_COUNT read no sample (R71, R73, R74). -/
theorem exec_withSensors {i : Instr} {s t : State} (hi : i = .reset ∨ i = .hold ∨ i = .dwellCount)
    (h : exec i s = .next t) (y : Option Sample) : exec i { s with sensors := y } = .next { t with sensors := y } := by
  obtain rfl | rfl | rfl := hi
  case inl =>
    rw [exec_reset] at h ⊢
    exact enter_withSensors h y
  case inr.inl => exact checked_withSensors h fun hemit => emitCode_withSensors hemit y
  case inr.inr =>
    rw [exec_dwellCount] at h ⊢
    exact checked_withSensors h fun hemit => emitCode_withSensors hemit y

/-- An edge that is no transition edge selects one of the other three operations (R60). -/
theorem decodeControl_of_no_transition {r t l : Bool} (h : ¬ (r = false ∧ t = true ∧ l = true)) :
    decodeControl (BitVec.ofBool r ++ BitVec.ofBool t ++ BitVec.ofBool l) = .reset ∨
    decodeControl (BitVec.ofBool r ++ BitVec.ofBool t ++ BitVec.ofBool l) = .hold ∨
    decodeControl (BitVec.ofBool r ++ BitVec.ofBool t ++ BitVec.ofBool l) = .dwellCount := by
  revert r t l
  decide

/-- Settles O39: both steps run the same operation, one that reads no sample, in states that differ in the port alone. -/
theorem sensorsMatterOnlyAtTheTransitionEdge : Obligations.SensorsMatterOnlyAtTheTransitionEdge := by
  intro s t rst tick x y rest hedge h
  rw [step_edge rfl] at h ⊢
  exact exec_withSensors (decodeControl_of_no_transition (by simpa using hedge)) h y

end Sys2Proof.Memory
end

section
/-! PROOFS. Decode and encode, the illegal state codes, the output codes that are driven, and the words of the operation
select and of program lines (O17, O19, O32, O43, O46). -/

open Sys2Proof Sys2Proof.Machine Sys2Proof.Claims Sys2Proof.Scope Sys2Proof.Invariant Sys2Proof.Memory

namespace Sys2Proof.Encoding

/-! Decode and encode. -/

theorem decodeState_of_101x : ∀ c : StateCode, c &&& 0b1110#4 = 0b1010#4 → decodeState c = .illegalState101x c := by decide

theorem decodeState_of_11xx : ∀ c : StateCode, c &&& 0b1100#4 = 0b1100#4 → decodeState c = .illegalState11xx c := by decide

/-- Settles O32: only the two masked rows ILLEGAL_STATE carry bits of their word, and their mask keeps them in their row; every
other row's word is a literal, which the decoder is evaluated at. -/
theorem decodeOfEncodeIsTheInstruction : Obligations.DecodeOfEncodeIsTheInstruction := by
  intro i hwf
  cases i
  case illegalState101x code => exact congrArg Except.ok (decodeState_of_101x code (eq_of_beq hwf))
  case illegalState11xx code => exact congrArg Except.ok (decodeState_of_11xx code (eq_of_beq hwf))
  all_goals rfl

/-! The illegal state codes. -/

/-- Each illegal code decodes to the row of its mask (R51). -/
theorem decodeState_of_illegal : ∀ c : StateCode, 8#4 < c → decodeState c =
    if c = 0b1001#4 then .illegalState1001
    else if c &&& 0b1110#4 = 0b1010#4 then .illegalState101x c else .illegalState11xx c := by decide

theorem exec_illegalState1001 (s : State) : exec .illegalState1001 s = illegalCode 0b1001#4 s := rfl

theorem exec_illegalState101x (c : StateCode) (s : State) : exec (.illegalState101x c) s = illegalCode c s := rfl

theorem exec_illegalState11xx (c : StateCode) (s : State) : exec (.illegalState11xx c) s = illegalCode c s := rfl

theorem illegalCode_of_init {s : State} (hinit : s.init = true) (c : StateCode) :
    illegalCode c s = .fault (.illegalState c) := by
  simp [illegalCode, hinit]

/-- The row an illegal code decodes to stops under that code. -/
theorem exec_decodeState_of_illegal {c : StateCode} (hc : 8#4 < c) (s : State) :
    exec (decodeState c) s = illegalCode c s := by
  rw [decodeState_of_illegal c hc]
  split_ifs with h1001
  · rw [h1001, exec_illegalState1001]
  · exact exec_illegalState101x c s
  · exact exec_illegalState11xx c s

/-- No output stands at an illegal code (R51). -/
theorem emit_of_illegal {s : State} (hs : 8#4 < s.state) : emit s = .fault (.illegalState s.state) := by
  simp [emit, emitCode, (rowAt_eq_none_iff s.state).2 hs]

/-- On a held illegal code every operation but RESET stops before it reads a table (R75, R70). -/
theorem exec_control_of_illegal {i : Instr} {s : State} (hi : i ∈ controlInstrs) (hreset : i ≠ .reset)
    (hinit : s.init = true) (hs : 8#4 < s.state) : exec i s = .fault (.illegalState s.state) := by
  simp only [controlInstrs, List.mem_cons, List.not_mem_nil, or_false] at hi
  obtain rfl | rfl | rfl | rfl | rfl := hi
  case inl => contradiction
  case inr.inl => exact checked_illegalState hinit hs _
  case inr.inr.inl =>
    rw [exec_dwellCount]
    exact checked_illegalState hinit hs _
  case inr.inr.inr.inl => exact checked_illegalState hinit hs _
  case inr.inr.inr.inr =>
    rw [exec_output, hinit]
    exact emit_of_illegal hs

/-- All that a step can decode: the operation select, the held state's code, a ROM address of the held state, or OUTPUT. -/
theorem fetchCode_cases (s : State) :
    fetchCode s = .control (controlSelect (atEdge s)) ∨ fetchCode s = .stateCode s.state ∨
    (∃ x, fetchCode s = .romWord (romAddr s.state x)) ∨ fetchCode s = .combinational 0#3 := by
  obtain ⟨hstate, -⟩ := atEdge_keeps s
  have hcode : fetchCode s = codeOfLine (nextLine s) (atEdge s) := rfl
  rw [hcode, ← hstate]
  cases nextLine s
  case edge | reset => exact .inl rfl
  case sample => exact .inr (.inl rfl)
  case word x => exact .inr (.inr (.inl ⟨x, rfl⟩))
  case output => exact .inr (.inr (.inr rfl))

/-- RESET runs only at an edge with `rst` high (R60). -/
theorem fetch_ne_reset {s : State} (h : (atEdge s).rst = false) : fetch s ≠ .reset := by
  have hother (hf : fetch s ∉ controlInstrs) : fetch s ≠ .reset := fun he => hf (he ▸ by simp [controlInstrs])
  obtain hc | hc | ⟨x, hc⟩ | hc := fetchCode_cases s
  case inl =>
    rw [fetch_controlSelect hc, h, if_neg Bool.false_ne_true]
    split_ifs <;> nofun
  case inr.inl => exact hother (fetch_stateCode_not_control hc)
  case inr.inr.inl => exact hother (fetch_romWord_not_control hc)
  case inr.inr.inr =>
    rw [fetch_of_decode (i := .output) (by rw [hc, decode])]
    nofun

/-- An illegal state forms unused ROM addresses only (R32). -/
theorem decodeRom_of_illegal {c : StateCode} (h : 8#4 < c) (x : Sample) : ∃ e, decodeRom (romAddr c x) = .error e := by
  rw [decodeRom_error_iff, romAddr_toNat]
  bv_omega

/-- On a held illegal code a step runs an operation, or that code's own row. -/
theorem fetch_of_illegal {s : State} (hs : 8#4 < s.state) : fetch s ∈ controlInstrs ∨ fetch s = decodeState s.state := by
  obtain hc | hc | ⟨x, hc⟩ | hc := fetchCode_cases s
  case inl =>
    rw [fetch_controlSelect hc]
    left
    split_ifs <;> simp [controlInstrs]
  case inr.inl => exact .inr (fetch_of_decode (by rw [hc, decode]))
  case inr.inr.inl =>
    obtain ⟨e, he⟩ := decodeRom_of_illegal hs x
    obtain ⟨hstate, -⟩ := atEdge_keeps s
    right
    rw [fetch, hc, decode, he, ← hstate]
  case inr.inr.inr =>
    left
    rw [fetch_of_decode (i := .output) (by rw [hc, decode])]
    simp [controlInstrs]

/-- After a reset edge a step without reset on a held illegal code stops under that code (R51, R75). -/
theorem step_of_illegal {s : State} (hinit : s.init = true) (hs : 8#4 < s.state) (hrst : (atEdge s).rst = false) :
    step s = .fault (.illegalState s.state) := by
  obtain ⟨hstate, -, hat, -⟩ := atEdge_keeps s
  rw [step]
  obtain hf | hf := fetch_of_illegal hs
  · rw [exec_control_of_illegal hf (fetch_ne_reset hrst) (hat.trans hinit) (hstate ▸ hs), hstate]
  · rw [hf, exec_decodeState_of_illegal hs, illegalCode_of_init (hat.trans hinit)]

/-- An entry edge enters legal states only. -/
theorem enter_state_legal {n : StateCode} {s t : State} (h : enter n s = .next t) : t.state ≤ 8#4 := by
  obtain ⟨row, hrow, rfl⟩ := enter_next h
  exact (rowAt_isSome_iff n).1 (by simp [hrow])

/-- No meaning writes an illegal code (R22). -/
theorem exec_state_legal {i : Instr} {s t : State} (hs : s.state ≤ 8#4) (h : exec i s = .next t) : t.state ≤ 8#4 := by
  obtain ⟨-, hdo⟩ | ⟨-, -, hdo⟩ | ⟨-, -, hdo⟩ | ⟨-, -, hdo⟩ | ⟨-, -, rfl⟩ | ⟨-, -, -, -, -, n, hdo⟩ := exec_next h
  case inl | inr.inr.inr.inr.inr => exact enter_state_legal hdo
  case inr.inl | inr.inr.inl | inr.inr.inr.inl =>
    obtain ⟨-, hstate, -⟩ := emit_coherent hdo
    exact hstate ▸ hs
  case inr.inr.inr.inr.inl => exact hs

/-- Settles O19: the rows stop under their code, every step without reset on an illegal code comes to such a stop, and entry
edges, which alone write `state`, enter legal states. -/
theorem illegalStateCodesStop : Obligations.IllegalStateCodesStop := by
  refine ⟨fun s hinit => ?_, fun s c hinit _ => ?_, fun s c hinit _ => ?_, fun c hc => ?_,
    fun s => step_of_illegal, fun s t hs h => ?_⟩
  · rw [exec_illegalState1001, illegalCode_of_init hinit]
  · rw [exec_illegalState101x, illegalCode_of_init hinit]
  · rw [exec_illegalState11xx, illegalCode_of_init hinit]
  · rw [decode, decodeState_of_illegal c hc]
  · obtain ⟨hstate, -⟩ := atEdge_keeps s
    exact exec_state_legal (hstate ▸ hs) h

/-! The output codes that are driven. -/

/-- The road codes by the states that use them (R54). -/
theorem roadOf_cases : ∀ c : StateCode, c ≤ 8#4 →
    (roadOf c = 0x0C#6 ∧ c = 0#4) ∨ (roadOf c = 0x14#6 ∧ c = 1#4) ∨ (roadOf c = 0x21#6 ∧ c = 2#4) ∨
    (roadOf c = 0x22#6 ∧ c = 3#4) ∨ (roadOf c = 0x24#6 ∧ 4#4 ≤ c) := by decide

/-- The three ped codes, WALK, DONT_WALK and DARK (R56). -/
theorem pedOf_cases : ∀ c : StateCode, pedOf c = 0x08#4 ∨ pedOf c = 0x02#4 ∨ pedOf c = 0x00#4 := by decide

/-- The five road codes light one lamp on each approach (R54). -/
theorem oneLampEach_roadOf {c : StateCode} (h : c ≤ 8#4) : oneLampEach (roadOf c) = true := by
  obtain ⟨hroad, -⟩ | ⟨hroad, -⟩ | ⟨hroad, -⟩ | ⟨hroad, -⟩ | ⟨hroad, -⟩ := roadOf_cases c h <;> rw [hroad] <;> rfl

/-- After a step from the invariant the ports show a legal state's codes. -/
theorem step_codes {s t : State} (hinv : RunInv s) (h : step s = .next t) :
    t.state ≤ 8#4 ∧ t.road = roadOf t.state ∧ t.ped = pedOf t.state := by
  obtain ⟨⟨-, hlegal, -⟩, hcoh⟩ := step_runInv hinv h
  exact ⟨hlegal, codes_of_coherent hcoh⟩

/-- Settles O43: the ports show a legal state's codes, which are the five and the three; the lamps of the codes are read off
their bits. -/
theorem onlyTheProducibleCodesAreDriven : Obligations.OnlyTheProducibleCodesAreDriven := by
  refine ⟨fun s t hinv h => ?road, fun s t hinv h => ?ped, fun s t hinv h => ?lamps, by decide⟩ <;>
    obtain ⟨hlegal, hroad, hped⟩ := step_codes hinv h
  case road =>
    rw [hroad]
    exact roadOf_cases t.state hlegal
  case ped =>
    rw [hped]
    obtain hcode | hcode | hcode := pedOf_cases t.state <;> simp [hcode]
  case lamps =>
    rw [hroad]
    exact oneLampEach_roadOf hlegal

/-! The operation select. -/

/-- The four rows of the operation select (R60). -/
def selectedInstrs : List Instr := [.reset, .hold, .dwellCount, .sampleTransition]

/-- The table's masks leave no select value out and give none to two rows (R60). -/
theorem exactly_one_row_accepts : ∀ w : BitVec 3,
    (selectedInstrs.filter (fun i => (opcodeRow i).accepts (.control w))).length = 1 := by decide

/-- Settles O17: the select's bits, the order of its decode, its rows, and OUTPUT for any bits of its own format. -/
theorem operationSelectIsRuleSixty : Obligations.OperationSelectIsRuleSixty :=
  ⟨fun _ => rfl, fun r t l => congrArg Except.ok (decodeControl_bits r t l), exactly_one_row_accepts, fun _ => rfl⟩

/-! The words of program lines. -/

/-- A line's word is its three fields, one above the other (R63). -/
theorem edgeWord_fields : ∀ w : EdgeWord,
    BitVec.ofBool (w.getLsbD 4) ++ BitVec.ofBool (w.getLsbD 3) ++ w.extractLsb' 0 3 = w := by decide

/-- Each field of a line's word is read from its place (R63). -/
theorem edgeLine_append : ∀ (rst tick : Bool) (x : Sample),
    edgeLine (BitVec.ofBool rst ++ BitVec.ofBool tick ++ x) = .edge rst tick (some x) := by decide

/-- Settles O46: a word is its fields, the fields are read back, and the two words are evaluated. -/
theorem programLineWordsRoundTrip : Obligations.ProgramLineWordsRoundTrip :=
  ⟨fun w => congrArg some (edgeWord_fields w), edgeLine_append, rfl, rfl⟩

end Sys2Proof.Encoding
end

section
/-! PROOFS. The operations of an edge as R70-R75 write them, the steps they make, and the runs of many edges: no run stops, a
dwell is 600 ticks, and the flash is four dwells (O1, O2, O3, O4, O5, O15, O16, O27, O34, O35, O36, O37, O45, O49). -/

open Sys2Proof Sys2Proof.Machine Sys2Proof.Claims Sys2Proof.Scope Sys2Proof.Invariant Sys2Proof.Memory Sys2Proof.Encoding

namespace Sys2Proof.Engine

/-! The operations, in the spec's own words. -/

/-- Driving the outputs of a legal state (R70). -/
theorem emit_of_legal {s : State} (h : s.state ≤ 8#4) : emit s = .next (driven s) := by
  obtain ⟨row, hrow, -⟩ := rowAt_of_legal h
  obtain ⟨hroad, hped⟩ := codes_of_tableWf stateTable_wf hrow
  rw [emit, emitCode_of_row hrow, hroad, hped]
  rfl

/-- The entry edge into a legal state (R72, R74). -/
theorem enter_of_legal {n : StateCode} (h : n ≤ 8#4) (s : State) : enter n s = .next (entered n s) := by
  obtain ⟨row, hrow, hdwell⟩ := rowAt_of_legal h
  obtain ⟨hroad, hped⟩ := codes_of_tableWf stateTable_wf hrow
  rw [enter_of_row hrow, hdwell, hroad, hped]
  rfl

/-- The entry edge into the state that a ROM word of a legal state names (R72, R90). -/
theorem enter_memRead {c : StateCode} (h : c ≤ 8#4) (x : Sample) (s : State) :
    enter (memRead (romAddr c x)) s = .next (entered (specWord c x) s) := by
  rw [enter_of_legal (memRead_legal h x), memRead_romAddr h]

/-- What is done after the checks matters on held values only (R75). -/
theorem checked_congr {s : State} {k k' : State → Result} (h : Held s → k s = k' s) : checked s k = checked s k' := by
  by_cases hinit : s.init = true
  · by_cases hstate : 8#4 < s.state
    · simp only [checked_illegalState hinit hstate]
    · have hlegal := BitVec.not_lt.1 hstate
      by_cases hcnt : s.cnt = 0#10 ∨ 600#10 < s.cnt
      · simp only [checked_illegalCount hinit hlegal hcnt]
      · have hheld : Held s := ⟨hinit, hlegal, by bv_omega, by bv_omega⟩
        simp only [checked_of_held hheld, h hheld]
  · simp only [checked_noReset (Bool.not_eq_true _ ▸ hinit)]

/-- R74. -/
theorem exec_reset_eq (s : State) : exec .reset s = .next (entered 0#4 { s with init := true }) :=
  enter_of_legal (n := 0#4) (by decide) s.setInit

/-- R73. -/
theorem exec_hold_eq (s : State) : exec .hold s = checked s (fun s => .next (driven s)) :=
  checked_congr fun ⟨_, hlegal, _⟩ => emit_of_legal hlegal

/-- R71. -/
theorem exec_dwellCount_eq (s : State) :
    exec .dwellCount s = checked s (fun s => .next (driven { s with cnt := s.cnt - 1#10 })) := by
  rw [exec_dwellCount]
  exact checked_congr fun ⟨_, hlegal, _⟩ => emit_of_legal hlegal

/-- R72. -/
theorem exec_sampleTransition_eq (s : State) :
    exec .sampleTransition s = checked s (fun s => .next (entered (specWord s.state (captured s)) s)) :=
  checked_congr fun ⟨_, hlegal, _⟩ => enter_memRead hlegal _ s

theorem exec_hold_of_held {s : State} (h : Held s) : exec .hold s = .next (driven s) := by
  rw [exec_hold_eq, checked_of_held h]

theorem exec_dwellCount_of_held {s : State} (h : Held s) :
    exec .dwellCount s = .next (driven { s with cnt := s.cnt - 1#10 }) := by
  rw [exec_dwellCount_eq, checked_of_held h]

theorem exec_sampleTransition_of_held {s : State} (h : Held s) :
    exec .sampleTransition s = .next (entered (specWord s.state (captured s)) s) := by
  rw [exec_sampleTransition_eq, checked_of_held h]

/-- R70, after a reset edge. -/
theorem exec_output_of_legal {s : State} (hinit : s.init = true) (h : s.state ≤ 8#4) : exec .output s = .next (driven s) := by
  rw [exec_output, hinit]
  exact emit_of_legal h

/-- A stable input is captured as it stands (R36). -/
theorem captured_of_stable {s : State} {x : Sample} (h : s.sensors = some x) : captured s = x := by
  simp [captured, h]

/-- R75 from its second line on: the checks, then the operation that `tick` and the count select. -/
theorem clockStep_of_no_reset (s : State) (tick : Bool) (x : Sample) :
    clockStep s false tick x = checked s (fun s =>
      if tick = false then .next (driven s)
      else if 1#10 < s.cnt then .next (driven { s with cnt := s.cnt - 1#10 })
      else .next (entered (specWord s.state x) s)) := by
  simp [clockStep, checked, stateIllegal, countIllegal]

/-! The rows that take a transition (R32, R72, R76). -/

theorem legal_cases : ∀ c : StateCode, c ≤ 8#4 →
    c = 0#4 ∨ c = 1#4 ∨ c = 2#4 ∨ c = 3#4 ∨ c = 4#4 ∨ c = 5#4 ∨ c = 6#4 ∨ c = 7#4 ∨ c = 8#4 := by decide

/-- A legal code's row is that state's dwell cycle (R80-R88). -/
theorem exec_decodeState_of_legal {c : StateCode} (h : c ≤ 8#4) (s : State) : exec (decodeState c) s = dwellCycle c s := by
  obtain rfl | rfl | rfl | rfl | rfl | rfl | rfl | rfl | rfl := legal_cases c h <;> rfl

/-- The ROM rows in address order each load the word of their own address (R32). -/
theorem exec_romInstrs : romInstrs.map exec = (List.range 72).map (fun k => loadRomWord (BitVec.ofNat 7 k)) := rfl

theorem exec_of_decodeRom {a : RomAddr} {i : Instr} (h : decodeRom a = .ok i) (s : State) : exec i s = loadRomWord a s := by
  have hi := (decodeRom_ok_iff a i).1 h
  have hlt : a.toNat < 72 := romInstrs_length ▸ (List.getElem?_eq_some_iff.1 hi).1
  have hexec := congrArg (·[a.toNat]?) exec_romInstrs
  simp only [List.getElem?_map, hi, List.getElem?_range hlt, Option.map_some, BitVec.ofNat_toNat, BitVec.setWidth_eq,
    Option.some.injEq] at hexec
  rw [hexec]

/-- A ROM row of a legal state enters the state its word names. -/
theorem loadRomWord_of_held {s : State} (h : Held s) {c : StateCode} (hc : c ≤ 8#4) (x : Sample) :
    loadRomWord (romAddr c x) s = .next (entered (specWord c x) s) := by
  rw [loadRomWord, checked_of_held h, enter_memRead hc]

/-- The held state's own row ends in SAMPLE_TRANSITION (R76). -/
theorem exec_decodeState_of_held {s : State} (h : Held s) : exec (decodeState s.state) s = exec .sampleTransition s := by
  have ⟨_, hlegal, _⟩ := h
  rw [exec_decodeState_of_legal hlegal, dwellCycle_of_held hlegal h, exec_sampleTransition, checked_of_held h]

/-- Settles O34: on held values each row enters the state that the ROM word at the held state and the sample names. -/
theorem transitionRowsAgree : Obligations.TransitionRowsAgree := by
  refine ⟨fun s => exec_decodeState_of_held, fun s i hheld hdec => ?word, fun s x hheld hx => ?stable⟩
  case word =>
    have ⟨_, hlegal, _⟩ := hheld
    rw [exec_of_decodeRom hdec, loadRomWord_of_held hheld hlegal, exec_sampleTransition_of_held hheld]
  case stable => rw [exec_sampleTransition_of_held hheld, captured_of_stable hx]

/-! The step of each line. -/

/-- At a line's edge the line is taken and its inputs are on the ports. -/
theorem atEdge_cons {s : State} {l : Line} {rest : List Line} (h : s.pending = l :: rest) :
    atEdge s = present l { s with pending := rest, edge := s.edge + 1 } := by
  simp [atEdge, nextLine, State.takeLine, h]

/-- A step on an edge line is the operation that R60 selects, in the state at the edge. -/
theorem step_edgeState {s : State} {rst tick : Bool} {x : Option Sample} {rest : List Line}
    (h : s.pending = .edge rst tick x :: rest) :
    step s = exec (if rst then .reset else if tick = false then .hold
      else if (s.cnt == 1#10) = false then .dwellCount else .sampleTransition) (edgeState s rst tick x rest) := by
  rw [step, fetch_edge h, atEdge_cons h]
  rfl

theorem step_edge_reset {s : State} {tick : Bool} {x : Option Sample} {rest : List Line}
    (h : s.pending = .edge true tick x :: rest) :
    step s = .next (entered 0#4 { edgeState s true tick x rest with init := true }) := by
  rw [step_edgeState h, if_pos rfl, exec_reset_eq]

theorem step_edge_hold {s : State} {x : Option Sample} {rest : List Line} (hheld : Held s)
    (h : s.pending = .edge false false x :: rest) : step s = .next (driven (edgeState s false false x rest)) := by
  rw [step_edgeState h]
  exact exec_hold_of_held (s := edgeState s false false x rest) hheld

theorem step_edge_dwellCount {s : State} {x : Option Sample} {rest : List Line} (hheld : Held s) (hcnt : s.cnt ≠ 1#10)
    (h : s.pending = .edge false true x :: rest) :
    step s = .next (driven { edgeState s false true x rest with cnt := s.cnt - 1#10 }) := by
  rw [step_edgeState h, beq_false_of_ne hcnt]
  exact exec_dwellCount_of_held (s := edgeState s false true x rest) hheld

theorem step_edge_transition {s : State} {x : Option Sample} {rest : List Line} (hheld : Held s) (hcnt : s.cnt = 1#10)
    (h : s.pending = .edge false true x :: rest) :
    step s = .next (entered (specWord s.state (captured (edgeState s false true x rest))) (edgeState s false true x rest)) := by
  rw [step_edgeState h, beq_iff_eq.2 hcnt]
  exact exec_sampleTransition_of_held (s := edgeState s false true x rest) hheld

/-- The dwell view's step: the dwell's outcome at its sample (R76). -/
theorem step_sample_of_held {s : State} {x : Sample} {rest : List Line} (hheld : Held s) (h : s.pending = .sample x :: rest) :
    step s = .next (entered (specWord s.state x) (edgeState s false true (some x) rest)) := by
  have hfetch : fetch s = decodeState s.state := fetch_of_decode (by rw [fetchCode_sample h, decode])
  rw [step, hfetch, atEdge_cons h]
  have hedge : Held (edgeState s false true (some x) rest) := hheld
  exact (exec_decodeState_of_held hedge).trans (exec_sampleTransition_of_held hedge)

theorem step_resetLine {s : State} {rest : List Line} (h : s.pending = .reset :: rest) :
    step s = .next (entered 0#4 { edgeState s true s.tick s.sensors rest with init := true }) := by
  have hedge : atEdge s = edgeState s true s.tick s.sensors rest := atEdge_cons h
  have hcode : fetchCode s = .control (controlSelect (atEdge s)) := by simp [fetchCode, nextLine, h, codeOfLine]
  rw [step, fetch_controlSelect hcode, hedge]
  exact exec_reset_eq _

theorem step_outputLine {s : State} {rest : List Line} (hinit : s.init = true) (hlegal : s.state ≤ 8#4)
    (h : s.pending = .output :: rest) : step s = .next (driven (edgeState s s.rst s.tick s.sensors rest)) := by
  have hedge : atEdge s = edgeState s s.rst s.tick s.sensors rest := atEdge_cons h
  have hfetch : fetch s = .output := fetch_of_decode (by simp [fetchCode, nextLine, h, codeOfLine, decode])
  rw [step, hfetch, hedge]
  exact exec_output_of_legal hinit hlegal

/-- A free edge is the edge of the line that its free inputs make (log entry 1). -/
theorem step_of_no_line {s : State} (h : s.pending = []) : step s = step { s with pending := [nextLine s] } := by
  have hedge : atEdge { s with pending := [nextLine s] } = atEdge s := by
    rw [atEdge_cons rfl]
    simp [atEdge, State.takeLine, h]
  have hcode : fetchCode { s with pending := [nextLine s] } = fetchCode s := by
    rw [fetchCode, hedge]
    rfl
  simp only [step, fetch, hedge, hcode]

/-! What one step does, obligation by obligation. -/

/-- Settles O49: each of the two lines presents to RESET or OUTPUT the ports it leaves. -/
theorem resetAndOutputLinesLeaveTheOtherPorts : Obligations.ResetAndOutputLinesLeaveTheOtherPorts :=
  ⟨fun _ _ => step_resetLine, fun _ _ => step_outputLine⟩

/-- Settles O1: every clause is the entry edge into GoWest, which reads no held value. -/
theorem resetLoadsGoWestFromAnyValues : Obligations.ResetLoadsGoWestFromAnyValues := by
  refine ⟨exec_reset_eq, fun _ _ _ _ => step_edge_reset, fun s rest h => ?line, fun s t t' x x' rest h => ?again⟩
  case line => exact ⟨_, step_resetLine h, rfl, rfl, rfl, rfl, rfl, rfl⟩
  case again => exact ⟨_, _, step_edge_reset h, step_edge_reset rfl, rfl, rfl, rfl, rfl⟩

/-- Settles O4: SAMPLE_TRANSITION on held values, and the literal words; where the word is the held state itself the ports
already show its codes. -/
theorem sampleTransitionLoadsTheRomWord : Obligations.SampleTransitionLoadsTheRomWord := by
  have stable (s : State) (x : Sample) (hheld : Held s) (hx : s.sensors = some x) :
      exec .sampleTransition s = .next (entered (specWord s.state x) s) := by
    rw [exec_sampleTransition_of_held hheld, captured_of_stable hx]
  refine ⟨fun s x hheld _ => stable s x hheld, fun s hinit hs => checked_illegalState hinit hs _,
    fun s x rest => step_edge_transition, fun s x hinv hcnt hx hself => ?self, by decide⟩
  case self =>
    obtain ⟨hheld, hcoh⟩ := hinv
    obtain ⟨hroad, hped⟩ := codes_of_coherent hcoh
    rw [stable s x hheld hx, hself, entered, ← hroad, ← hped]

/-- Settles O3: DWELL_COUNT on held values, its check of the count, and the edge that selects it. -/
theorem dwellCountCountsOneTick : Obligations.DwellCountCountsOneTick := by
  refine ⟨fun s hheld hcnt => ⟨exec_dwellCount_of_held hheld, ?range⟩, fun s hinit hs hcnt => ?illegal,
    fun s x rest => step_edge_dwellCount⟩
  case range =>
    obtain ⟨-, -, hpos, hle⟩ := hheld
    constructor <;> bv_omega
  case illegal => rw [exec_dwellCount, checked_illegalCount hinit hs hcnt]

/-- Settles O5: OUTPUT on a legal and on an illegal state; the ports of a coherent state are a function of the state. -/
theorem outputDrivesTheCodesOfTheState : Obligations.OutputDrivesTheCodesOfTheState := by
  refine ⟨fun s => exec_output_of_legal, fun s => exec_control_of_illegal (by simp [controlInstrs]) nofun,
    fun s t hinv h => (step_codes hinv h).2, fun s t hinv h hsame => ?same⟩
  obtain ⟨-, hroad, hped⟩ := step_codes hinv h
  obtain ⟨hroad', hped'⟩ := codes_of_coherent hinv.2
  exact ⟨by rw [hroad, hroad', hsame], by rw [hped, hped', hsame]⟩

/-- Settles O45: DWELL_COUNT answers on held values only, and no step selects it at a count of 1. -/
theorem decrementNeverWraps : Obligations.DecrementNeverWraps := by
  intro s t hfetch h
  obtain ⟨-, hcnt, -⟩ := atEdge_keeps s
  have hne := cnt_ne_one_of_fetch_dwellCount hfetch
  rw [step, hfetch, exec_dwellCount_eq] at h
  obtain ⟨⟨-, -, hpos, hle⟩, hdo⟩ := checked_next h
  rw [hcnt] at hpos hle
  have hless : t.cnt = s.cnt - 1#10 := by
    cases hdo
    exact congrArg (· - 1#10) hcnt
  rw [hless]
  refine ⟨?_, ?_, ?_, ?_, ?_⟩ <;> bv_omega

/-- The operation that R60 selects is R75's step: RESET comes first; else both sides make the same checks, and on held values
they do the same operation. -/
theorem exec_select_eq_clockStep (rst tick : Bool) {x : Sample} {s : State} (hx : s.sensors = some x) :
    exec (if rst then .reset else if tick = false then .hold
      else if (s.cnt == 1#10) = false then .dwellCount else .sampleTransition) s = clockStep s rst tick x := by
  cases rst
  case true => exact exec_reset_eq s
  case false =>
    rw [if_neg Bool.false_ne_true, clockStep_of_no_reset]
    cases tick
    case false => exact exec_hold_eq s
    case true =>
      by_cases hcnt : s.cnt = 1#10
      · rw [beq_iff_eq.2 hcnt]
        refine (exec_sampleTransition_eq s).trans (checked_congr fun _ => ?_)
        simp [hcnt, captured_of_stable hx]
      · rw [beq_false_of_ne hcnt]
        refine (exec_dwellCount_eq s).trans (checked_congr fun ⟨_, _, hpos, _⟩ => ?_)
        have hmore : 1#10 < s.cnt := by bv_omega
        simp [hmore]

/-- Settles O15: the edge puts the inputs on the ports, and the selected operation is the clock step there. -/
theorem everyEdgeIsTheClockStep : Obligations.EveryEdgeIsTheClockStep := by
  intro s rst tick x rest h
  rw [step_edgeState h]
  exact exec_select_eq_clockStep rst tick (s := edgeState s rst tick (some x) rest) rfl

/-- Settles O16: the free value's three fields make an edge line, which O15 speaks of. -/
theorem unspokenEdgeTakesFreeInputs : Obligations.UnspokenEdgeTakesFreeInputs := by
  intro s h
  have hline : nextLine s = edgeLine (Config.freeInputs s.edge) := by simp [nextLine, h]
  refine ⟨_, _, _, edgeWord_fields (Config.freeInputs s.edge), ?_⟩
  rw [step_of_no_line h, hline]
  exact everyEdgeIsTheClockStep _ _ _ _ _ rfl

/-! Runs of many steps. -/

theorem steps_succ_of_next {s t : State} (h : step s = .next t) (n : Nat) : steps (n + 1) s = steps n t := by
  rw [steps, h, andThen]

/-- A run is its first steps and then the others. -/
theorem steps_add {m : Nat} {s t : State} (h : steps m s = .next t) (n : Nat) : steps (m + n) s = steps n t := by
  induction m generalizing s with
  | zero =>
    cases h
    rw [Nat.zero_add]
  | succ m ih =>
    obtain ⟨u, hu, hrun⟩ := andThen_next_iff.1 h
    rw [Nat.succ_add, steps_succ_of_next hu, ih hrun]

theorem steps_one (s : State) : steps 1 s = step s := by
  rw [steps]
  cases step s <;> rfl

theorem steps_succ_last {m : Nat} {s t : State} (h : steps m s = .next t) : steps (m + 1) s = step t := by
  rw [steps_add h, steps_one]

/-- A step takes one line of the program. -/
theorem step_pending {s t : State} (h : step s = .next t) : t.pending = s.pending.tail := by
  obtain ⟨⟨-, -, -, hpending, -⟩, -⟩ := frameOfEveryInstruction _ _ _ h
  obtain ⟨-, -, -, -, -, htail, -⟩ := atEdge_keeps s
  rw [hpending, htail]

/-- On held values every operation an edge can perform, and OUTPUT, answers a next state. -/
theorem exec_control_answers {i : Instr} (hi : i ∈ controlInstrs) {s : State} (h : Held s) : ∃ t, exec i s = .next t := by
  have ⟨hinit, hlegal, _⟩ := h
  simp only [controlInstrs, List.mem_cons, List.not_mem_nil, or_false] at hi
  obtain rfl | rfl | rfl | rfl | rfl := hi
  case inl => exact ⟨_, exec_reset_eq s⟩
  case inr.inl => exact ⟨_, exec_hold_of_held h⟩
  case inr.inr.inl => exact ⟨_, exec_dwellCount_of_held h⟩
  case inr.inr.inr.inl => exact ⟨_, exec_sampleTransition_of_held h⟩
  case inr.inr.inr.inr => exact ⟨_, exec_output_of_legal hinit hlegal⟩

/-- A legal state forms ROM addresses that have a row (R32, R43). -/
theorem decodeRom_of_legal {c : StateCode} (h : c ≤ 8#4) (x : Sample) : ∃ i, decodeRom (romAddr c x) = .ok i := by
  cases hdec : decodeRom (romAddr c x) with
  | ok i => exact ⟨i, rfl⟩
  | error e => exact absurd ((decodeRom_error_iff _).1 ⟨e, hdec⟩) (Nat.not_le.2 (romAddr_toNat_lt h x))

/-- What a step on a legal state runs: an operation, the held state's row, or a ROM row of the held state. -/
theorem fetch_of_legal {s : State} (h : s.state ≤ 8#4) :
    fetch s ∈ controlInstrs ∨ fetch s = decodeState s.state ∨ ∃ x, decodeRom (romAddr s.state x) = .ok (fetch s) := by
  obtain hc | hc | ⟨x, hc⟩ | hc := fetchCode_cases s
  case inl =>
    left
    rw [fetch_controlSelect hc]
    split_ifs <;> simp [controlInstrs]
  case inr.inl => exact .inr (.inl (fetch_of_decode (by rw [hc, decode])))
  case inr.inr.inl =>
    obtain ⟨i, hi⟩ := decodeRom_of_legal h x
    exact .inr (.inr ⟨x, by rw [hi, fetch_of_decode (by rw [hc, decode, hi])]⟩)
  case inr.inr.inr =>
    left
    rw [fetch_of_decode (i := .output) (by rw [hc, decode])]
    simp [controlInstrs]

/-- On held values every step answers a next state (R77, R101). -/
theorem step_answers {s : State} (h : Held s) : ∃ t, step s = .next t := by
  obtain ⟨hstate, hcnt, hinit, -⟩ := atEdge_keeps s
  have ⟨_, hlegal, _⟩ := h
  have hedge : Held (atEdge s) := by simpa only [Held, hstate, hcnt, hinit] using h
  rw [step]
  obtain hf | hf | ⟨x, hf⟩ := fetch_of_legal hlegal
  · exact exec_control_answers hf hedge
  · rw [hf, ← hstate, exec_decodeState_of_held hedge]
    exact ⟨_, exec_sampleTransition_of_held hedge⟩
  · rw [exec_of_decodeRom hf, loadRomWord_of_held hedge hlegal]
    exact ⟨_, rfl⟩

/-- Settles O27: by induction on the number of steps; each answers, and keeps the invariant. -/
theorem noRunStopsAfterReset : Obligations.NoRunStopsAfterReset := by
  intro s n hinv
  induction n generalizing s with
  | zero => exact ⟨s, rfl, hinv⟩
  | succ n ih =>
    obtain ⟨u, hu⟩ := step_answers hinv.1
    rw [steps_succ_of_next hu]
    exact ih u (step_runInv hinv hu)

/-! Runs of edges without reset, by the number of their ticks. -/

theorem ticks_cons (l : Line) (ls : List Line) : ticks (l :: ls) = ticks [l] + ticks ls := by
  simp only [ticks, ← List.length_append, ← List.filter_append, List.singleton_append]

theorem ticks_take_le (m : Nat) (ls : List Line) : ticks (ls.take m) ≤ ticks ls :=
  ((List.take_sublist m ls).filter isTick).length_le

/-- What each edge without reset keeps, counting its tick, holds at the end of a run of such edges, as long as the count stays
below a bound. -/
theorem plainRun_induction {P : Nat → State → Prop} {bound : Nat}
    (keep : ∀ k l s rest, P k s → isPlainEdge l = true → s.pending = l :: rest → k + ticks [l] < bound →
      ∃ t, step s = .next t ∧ P (k + ticks [l]) t)
    {k : Nat} {ls rest : List Line} {s : State} (hs : P k s) (hplain : ∀ l ∈ ls, isPlainEdge l = true)
    (hbound : k + ticks ls < bound) (hpending : s.pending = ls ++ rest) :
    ∃ t, steps ls.length s = .next t ∧ P (k + ticks ls) t ∧ t.pending = rest := by
  induction ls generalizing k s with
  | nil => exact ⟨s, rfl, hs, hpending⟩
  | cons l ls ih =>
    rw [ticks_cons, ← Nat.add_assoc] at hbound
    obtain ⟨u, hu, hPu⟩ := keep k l s (ls ++ rest) hs (hplain l List.mem_cons_self) hpending (by omega)
    have hup : u.pending = ls ++ rest := by rw [step_pending hu, hpending, List.cons_append, List.tail_cons]
    obtain ⟨t, ht, hPt, htp⟩ := ih hPu (fun l' hl' => hplain l' (List.mem_cons_of_mem l hl')) hbound hup
    rw [ticks_cons, ← Nat.add_assoc]
    exact ⟨t, (steps_succ_of_next hu _).trans ht, hPt, htp⟩

/-- In the state `c` with `k` of the dwell's `n` ticks past, and the invariant. -/
structure InDwell (c : StateCode) (n k : Nat) (s : State) : Prop where
  inv : RunInv s
  state_eq : s.state = c
  cnt_add : s.cnt.toNat + k = n

theorem InDwell.lamps {c : StateCode} {n k : Nat} {s : State} (h : InDwell c n k s) : s.road = roadOf c ∧ s.ped = pedOf c :=
  h.state_eq ▸ codes_of_coherent h.inv.2

/-- The count is 1 where one tick of the dwell is left. -/
theorem InDwell.cnt_eq_one_iff {c : StateCode} {n k : Nat} {s : State} (h : InDwell c n k s) : s.cnt = 1#10 ↔ k + 1 = n := by
  have := h.cnt_add
  constructor <;> intro <;> bv_omega

/-- A plain edge is HOLD, or a tick. -/
theorem plainEdge_cases {l : Line} (h : isPlainEdge l = true) :
    (∃ x, l = .edge false false x ∧ ticks [l] = 0) ∨ ∃ x, l = .edge false true x ∧ ticks [l] = 1 := by
  cases l with
  | edge rst tick x =>
    obtain rfl : rst = false := by simpa [isPlainEdge] using h
    cases tick
    · exact .inl ⟨x, rfl, rfl⟩
    · exact .inr ⟨x, rfl, rfl⟩
  | reset | sample | word | output => simp [isPlainEdge] at h

/-- Before its last tick a dwell goes on at every plain edge (R71, R73). -/
theorem InDwell.step_plainEdge {c : StateCode} {n k : Nat} {l : Line} {s : State} {rest : List Line} (h : InDwell c n k s)
    (hplain : isPlainEdge l = true) (hpending : s.pending = l :: rest) (hlt : k + ticks [l] < n) :
    ∃ t, step s = .next t ∧ InDwell c n (k + ticks [l]) t := by
  have ⟨hinv, hstate, hcnt⟩ := h
  obtain ⟨x, rfl, hticks⟩ | ⟨x, rfl, hticks⟩ := plainEdge_cases hplain <;> rw [hticks] at hlt ⊢
  · have hstep := step_edge_hold hinv.1 hpending
    exact ⟨_, hstep, step_runInv hinv hstep, hstate, hcnt⟩
  · have hstep := step_edge_dwellCount hinv.1 (mt h.cnt_eq_one_iff.1 (Nat.ne_of_lt hlt)) hpending
    refine ⟨_, hstep, step_runInv hinv hstep, hstate, ?_⟩
    obtain ⟨⟨-, -, hpos, -⟩, -⟩ := hinv
    change (s.cnt - 1#10).toNat + (k + 1) = n
    bv_omega

/-- A run of plain edges that is short of the dwell's ticks stays in the dwell. -/
theorem steps_inDwell {s : State} {ls rest : List Line} (hinv : RunInv s) (hplain : ∀ l ∈ ls, isPlainEdge l = true)
    (hlt : ticks ls < s.cnt.toNat) (hpending : s.pending = ls ++ rest) :
    ∃ t, steps ls.length s = .next t ∧ InDwell s.state s.cnt.toNat (ticks ls) t ∧ t.pending = rest := by
  have hrun := plainRun_induction (P := InDwell s.state s.cnt.toNat) (k := 0)
    (fun _ _ _ _ => InDwell.step_plainEdge) ⟨hinv, rfl, rfl⟩ hplain (by rwa [Nat.zero_add]) hpending
  rwa [Nat.zero_add] at hrun

/-- What a tick edge selects, by the ticks of the dwell that are past (R60, R79). -/
theorem InDwell.fetch_tick {c : StateCode} {n k : Nat} {s : State} {x : Option Sample} {rest : List Line}
    (h : InDwell c n k s) (hpending : s.pending = .edge false true x :: rest) :
    fetch s = if k + 1 = n then .sampleTransition else .dwellCount := by
  rw [fetch_edge hpending]
  by_cases hlast : k + 1 = n
  · simp [hlast, h.cnt_eq_one_iff.2 hlast]
  · simp [hlast, mt h.cnt_eq_one_iff.1 hlast]

/-- Settles O2: HOLD on held values and its checks; a run of its edges is a run of plain edges with no tick. -/
theorem holdKeepsBothRegisters : Obligations.HoldKeepsBothRegisters := by
  refine ⟨fun s => exec_hold_of_held, fun s hinv => ?coherent, fun s hinit hs => checked_illegalState hinit hs _,
    fun s hinit hs hcnt => checked_illegalCount hinit hs hcnt _, fun s x rest => step_edge_hold,
    fun s ls rest hinv hhold hpending => ?run⟩
  case coherent =>
    rw [exec_hold, checked_of_held hinv.1, emit_of_coherent hinv.2]
  case run =>
    have hplain : ∀ l ∈ ls, isPlainEdge l = true := by
      intro l hl
      obtain ⟨x, rfl⟩ := hhold l hl
      rfl
    have hticks : ticks ls = 0 := by
      refine List.length_eq_zero_iff.2 (List.filter_eq_nil_iff.2 fun l hl => ?_)
      obtain ⟨x, rfl⟩ := hhold l hl
      simp [isTick]
    have ⟨⟨_, _, hpos, _⟩, hcoh⟩ := hinv
    obtain ⟨t, ht, hdwell, -⟩ := steps_inDwell hinv hplain (by rw [hticks]; bv_omega) hpending
    obtain ⟨hroad, hped⟩ := hdwell.lamps
    obtain ⟨hroad', hped'⟩ := codes_of_coherent hcoh
    have hcnt := hdwell.cnt_add
    rw [hticks, Nat.add_zero] at hcnt
    exact ⟨t, ht, hdwell.state_eq, BitVec.eq_of_toNat_eq hcnt, hroad.trans hroad'.symm, hped.trans hped'.symm⟩

/-- Settles O36: the run stays in the dwell, whose past ticks say what the next tick edge selects. -/
theorem dwellIsSixHundredTicks : Obligations.DwellIsSixHundredTicks := by
  intro s ls rest x hinv hcnt hplain hticks hpending
  have hfull : s.cnt.toNat = 600 := congrArg BitVec.toNat hcnt
  obtain ⟨t, ht, hdwell, htp⟩ := steps_inDwell hinv hplain (by omega) hpending
  rw [hfull] at hdwell
  have hadd := hdwell.cnt_add
  refine ⟨t, ht, hdwell.state_eq, by omega, ?_⟩
  rw [hdwell.fetch_tick htp]
  simp only [Nat.reduceEqDiff]

/-- Settles O35: a part of the dwell's edges stays in the dwell, all of them leave its last tick, and the transition there loads
what the dwell view's one step loads. -/
theorem dwellViewAgreesWithClockView : Obligations.DwellViewAgreesWithClockView := by
  intro s ls rest x hinv hcnt hplain hticks hpending
  have hfull : s.cnt.toNat = 600 := congrArg BitVec.toNat hcnt
  obtain ⟨t, ht, hdwell, htp⟩ := steps_inDwell hinv hplain (by omega) hpending
  rw [hfull, hticks] at hdwell
  refine ⟨fun m hm => ?within, ⟨t, ht, by rw [hdwell.fetch_tick htp]; rfl⟩, ?agree⟩
  case within =>
    have hle := ticks_take_le m ls
    have hsplit : s.pending = ls.take m ++ (ls.drop m ++ .edge false true (some x) :: rest) := by
      rw [hpending, ← List.append_assoc, List.take_append_drop]
    obtain ⟨u, hu, hin, -⟩ := steps_inDwell hinv (fun l hl => hplain l (List.mem_of_mem_take hl)) (by omega) hsplit
    rw [List.length_take_of_le hm] at hu
    exact ⟨u, hu, hin.state_eq, hin.lamps⟩
  case agree =>
    have hlast := step_edge_transition hdwell.inv.1 (hdwell.cnt_eq_one_iff.2 rfl) htp
    rw [hdwell.state_eq] at hlast
    have hview := step_sample_of_held (s := { s with pending := .sample x :: rest }) hinv.1 rfl
    exact ⟨_, _, (steps_succ_last ht).trans hlast, hview, rfl, rfl, rfl, rfl, rfl, rfl, rfl, rfl, rfl, rfl⟩

/-! The pedestrian flash. -/

/-- `k` ticks into the flash: four dwells of 600 ticks, from FlashPed1 on (R79, R91). -/
abbrev InFlash (k : Nat) (s : State) : Prop := InDwell (BitVec.ofNat 4 (5 + k / 600)) 600 (k % 600) s

/-- The first three states of the flash go to the next one, for every sample (R85-R87). -/
theorem specWord_flash {d : Nat} (h : d < 3) (x : Sample) :
    specWord (BitVec.ofNat 4 (5 + d)) x = BitVec.ofNat 4 (5 + (d + 1)) := by
  revert x
  interval_cases d <;> decide

/-- FlashPed4 goes to GoWest, GoSouth or GoPed (R88). -/
theorem specWord_flashPed4 : ∀ x : Sample, specWord 8#4 x = 0#4 ∨ specWord 8#4 x = 2#4 ∨ specWord 8#4 x = 4#4 := by decide

theorem roadOf_flash {d : Nat} (h : d < 4) : roadOf (BitVec.ofNat 4 (5 + d)) = 0x24#6 := by
  interval_cases d <;> rfl

/-- DONT_WALK, DARK, DONT_WALK, DARK (R91). -/
theorem pedOf_flash {d : Nat} (h : d < 4) :
    pedOf (BitVec.ofNat 4 (5 + d)) = ([0x02, 0x00, 0x02, 0x00] : List PedCode).getD d 0 := by
  interval_cases d <;> rfl

/-- Before its 2400th tick the flash goes on at every plain edge: inside a dwell, or into the next state. -/
theorem inFlash_step_plainEdge {k : Nat} {l : Line} {s : State} {rest : List Line} (h : InFlash k s)
    (hplain : isPlainEdge l = true) (hpending : s.pending = l :: rest) (hlt : k + ticks [l] < 2400) :
    ∃ t, step s = .next t ∧ InFlash (k + ticks [l]) t := by
  by_cases hin : k % 600 + ticks [l] < 600
  · obtain ⟨t, ht, hdwell⟩ := InDwell.step_plainEdge h hplain hpending hin
    have hdiv : (k + ticks [l]) / 600 = k / 600 := by omega
    have hmod : (k + ticks [l]) % 600 = k % 600 + ticks [l] := by omega
    exact ⟨t, ht, by rwa [InFlash, hdiv, hmod]⟩
  · obtain ⟨x, rfl, hticks⟩ | ⟨x, rfl, hticks⟩ := plainEdge_cases hplain <;> rw [hticks] at hin hlt ⊢
    · omega
    · have hlast : k % 600 = 599 := by omega
      have hdiv : (k + 1) / 600 = k / 600 + 1 := by omega
      have hmod : (k + 1) % 600 = 0 := by omega
      rw [InFlash, hlast] at h
      have hstep := step_edge_transition h.inv.1 (h.cnt_eq_one_iff.2 rfl) hpending
      refine ⟨_, hstep, step_runInv h.inv hstep, ?_, ?_⟩
      · rw [hdiv, ← specWord_flash (by omega), ← h.state_eq]
        rfl
      · rw [hmod]
        rfl

/-- A run of plain edges from the entry edge of FlashPed1 that is short of 2400 ticks stays in the flash. -/
theorem steps_inFlash {s : State} {ls rest : List Line} (hinv : RunInv s) (hstate : s.state = 5#4) (hcnt : s.cnt = 600#10)
    (hplain : ∀ l ∈ ls, isPlainEdge l = true) (hlt : ticks ls < 2400) (hpending : s.pending = ls ++ rest) :
    ∃ t, steps ls.length s = .next t ∧ InFlash (ticks ls) t ∧ t.pending = rest := by
  have hrun := plainRun_induction (P := InFlash) (k := 0) (fun _ _ _ _ => inFlash_step_plainEdge)
    ⟨hinv, hstate, congrArg BitVec.toNat hcnt⟩ hplain (by rwa [Nat.zero_add]) hpending
  rwa [Nat.zero_add] at hrun

/-- Settles O37: the run stays in the flash, and its 2400th tick finds FlashPed4 at a count of 1. -/
theorem flashTakesTwentyFourHundredTicks : Obligations.FlashTakesTwentyFourHundredTicks := by
  intro s ls rest hinv hstate hcnt hplain hpending
  refine ⟨fun hlt => ?during, fun y tail hticks hrest => ?leaves⟩
  case during =>
    have hd : ticks ls / 600 < 4 := by omega
    obtain ⟨t, ht, hflash, -⟩ := steps_inFlash hinv hstate hcnt hplain hlt hpending
    obtain ⟨hroad, hped⟩ := InDwell.lamps hflash
    have hadd := InDwell.cnt_add hflash
    refine ⟨t, ht, ?_, by omega, hroad.trans (roadOf_flash hd), hped.trans (pedOf_flash hd)⟩
    rw [InDwell.state_eq hflash, BitVec.toNat_ofNat]
    omega
  case leaves =>
    obtain ⟨t, ht, hflash, htp⟩ := steps_inFlash hinv hstate hcnt hplain (by omega) hpending
    rw [hticks] at hflash
    have hdwell : InDwell 8#4 600 599 t := hflash
    rw [hrest] at htp
    have hlast := step_edge_transition hdwell.inv.1 (hdwell.cnt_eq_one_iff.2 rfl) htp
    rw [hdwell.state_eq] at hlast
    refine ⟨t, _, ht, hdwell.state_eq, by rw [hdwell.fetch_tick htp]; rfl, (steps_succ_last ht).trans hlast,
      specWord_flashPed4 _, fun x hy => ?_, rfl, rfl, rfl, rfl⟩
    exact congrArg (specWord 8#4) (captured_of_stable hy)

end Sys2Proof.Engine
end

section
/-! PROOFS. The nine states and their table: each state's rule, the table's shape, the states that are reached, and the safety of
the lamps (O6, O7, O8, O9, O10, O11, O12, O13, O14, O22, O41, O42). -/

open Sys2Proof Sys2Proof.Machine Sys2Proof.Claims Sys2Proof.Scope Sys2Proof.Invariant Sys2Proof.Memory Sys2Proof.Encoding
  Sys2Proof.Engine

namespace Sys2Proof.States

/-! One rule for all legal states: a state's row is eight places of the ROM in a row, from place `8 * c` on (R31). -/

/-- The literal words of a state's row (R32). -/
def rowWords (c : StateCode) : List StateCode := (specRom.drop (8 * c.toNat)).take 8

/-- The instructions of a state's ROM row (R57). -/
def rowInstrs (c : StateCode) : List Instr := (romInstrs.drop (8 * c.toNat)).take 8

/-- A sample selects within a row of eight. -/
theorem getD_take_drop {α : Type} (l : List α) (n : Nat) (x : Sample) (d : α) :
    ((l.drop n).take 8).getD x.toNat d = l.getD (n + x.toNat) d := by
  rw [List.getD_eq_getElem?_getD, List.getElem?_take_of_lt x.isLt, List.getElem?_drop, ← List.getD_eq_getElem?_getD]

theorem rowWords_getD (c : StateCode) (x : Sample) : (rowWords c).getD x.toNat 0 = specWord c x :=
  getD_take_drop specRom _ x 0

/-- The address of a legal state and a sample decodes to that state's instruction for the sample (R57). -/
theorem decodeRom_romAddr {c : StateCode} (h : c ≤ 8#4) (x : Sample) :
    decodeRom (romAddr c x) = .ok ((rowInstrs c).getD x.toNat .output) := by
  have hlt : 8 * c.toNat + x.toNat < romInstrs.length := romAddr_toNat c x ▸ romAddr_toNat_lt h x
  rw [decodeRom_ok_iff, romAddr_toNat, rowInstrs, getD_take_drop, List.getElem?_eq_getElem hlt, List.getD_eq_getElem _ _ hlt]

/-- What R80-R88 say of a state, for every legal code at once: the outputs are its codes in R54 and R56, and both its dwell cycle
and its ROM words enter the state that its row of R32 names. -/
theorem stateRule_of_legal {c : StateCode} (h : c ≤ 8#4) :
    StateRule c (roadOf c) (pedOf c) (rowWords c) (decodeState c) (rowInstrs c) := by
  refine ⟨rfl, fun s hinit hs => ?output, enter_of_legal h, fun s x hheld hs _ hx => ?cycle, decodeRom_romAddr h,
    fun s x hheld _ _ _ => ?word⟩
  case output =>
    subst hs
    exact exec_output_of_legal hinit h
  case cycle =>
    subst hs
    rw [exec_decodeState_of_held hheld, exec_sampleTransition_of_held hheld, captured_of_stable hx, rowWords_getD]
  case word => rw [exec_of_decodeRom (decodeRom_romAddr h x), loadRomWord_of_held hheld h, rowWords_getD]

/-- Settles O6: the rule of the legal code 0, whose codes, row and instructions are the literals of R80. -/
theorem ruleGoWest : Obligations.RuleGoWest := stateRule_of_legal (c := 0#4) (by decide)

/-- Settles O7: the rule of the legal code 1, whose codes, row and instructions are the literals of R81. -/
theorem ruleWaitWest : Obligations.RuleWaitWest := stateRule_of_legal (c := 1#4) (by decide)

/-- Settles O8: the rule of the legal code 2, whose codes, row and instructions are the literals of R82. -/
theorem ruleGoSouth : Obligations.RuleGoSouth := stateRule_of_legal (c := 2#4) (by decide)

/-- Settles O9: the rule of the legal code 3, whose codes, row and instructions are the literals of R83. -/
theorem ruleWaitSouth : Obligations.RuleWaitSouth := stateRule_of_legal (c := 3#4) (by decide)

/-- Settles O10: the rule of the legal code 4, whose codes, row and instructions are the literals of R84. -/
theorem ruleGoPed : Obligations.RuleGoPed := stateRule_of_legal (c := 4#4) (by decide)

/-- Settles O11: the rule of the legal code 5, whose codes, row and instructions are the literals of R85. -/
theorem ruleFlashPed1 : Obligations.RuleFlashPed1 := stateRule_of_legal (c := 5#4) (by decide)

/-- Settles O12: the rule of the legal code 6, whose codes, row and instructions are the literals of R86. -/
theorem ruleFlashPed2 : Obligations.RuleFlashPed2 := stateRule_of_legal (c := 6#4) (by decide)

/-- Settles O13: the rule of the legal code 7, whose codes, row and instructions are the literals of R87. -/
theorem ruleFlashPed3 : Obligations.RuleFlashPed3 := stateRule_of_legal (c := 7#4) (by decide)

/-- Settles O14: the rule of the legal code 8, whose codes, row and instructions are the literals of R88. -/
theorem ruleFlashPed4 : Obligations.RuleFlashPed4 := stateRule_of_legal (c := 8#4) (by decide)

/-! The table. -/

/-- Every entry names a next state for each of the eight samples (R34, R90). -/
theorem next_length_of_rowAt {c : StateCode} {row : StateRow} (h : rowAt c = some row) : row.next.length = 8 := by
  obtain ⟨-, hnext, -, -⟩ := (tableWf_iff stateTable).1 stateTable_wf
  obtain ⟨hlength, -⟩ := (nextRowWf_iff row.next).1 (hnext row (List.mem_of_getElem? h))
  exact hlength

/-- Settles O22: a legal code's entry has a full dwell and, by the build check, eight words; a used word is a legal code. -/
theorem tableIsClosedWithDwellSixHundred : Obligations.TableIsClosedWithDwellSixHundred := by
  refine ⟨fun c hc => ?_, fun c x hc => memRead_legal hc x⟩
  obtain ⟨row, hrow, hdwell⟩ := rowAt_of_legal hc
  exact ⟨row, hrow, hdwell, next_length_of_rowAt hrow⟩

/-! Runs in the dwell view. -/

/-- One dwell-view step goes to the state that the word of its sample names, and keeps the invariant (R76). -/
theorem step_sample_runInv {s : State} {x : Sample} {rest : List Line} (hinv : RunInv s) (h : s.pending = .sample x :: rest) :
    ∃ t, step s = .next t ∧ RunInv t ∧ t.state = specWord s.state x ∧ t.pending = rest :=
  have hstep := step_sample_of_held hinv.1 h
  ⟨_, hstep, step_runInv hinv hstep, rfl, rfl⟩

/-- A run of dwell-view lines folds the transition table over their samples. -/
theorem steps_samples {s : State} {xs : List Sample} (hinv : RunInv s) (h : s.pending = xs.map Line.sample) :
    ∃ t, steps xs.length s = .next t ∧ t.state = xs.foldl specWord s.state := by
  induction xs generalizing s with
  | nil => exact ⟨s, rfl, rfl⟩
  | cons x xs ih =>
    obtain ⟨u, hu, huinv, hustate, hup⟩ := step_sample_runInv hinv h
    obtain ⟨t, ht, htstate⟩ := ih huinv hup
    exact ⟨t, (steps_succ_of_next hu _).trans ht, by rw [htstate, hustate, List.foldl_cons]⟩

/-- Samples that lead from GoWest to a state: over WaitWest, then to the south or to the pedestrians. -/
def samplesTo (c : StateCode) : List Sample :=
  ([[], [2], [2, 0], [2, 0, 1], [2, 4], [2, 4, 1], [2, 4, 1, 0], [2, 4, 1, 0, 0], [2, 4, 1, 0, 0, 0]] :
    List (List Sample)).getD c.toNat []

theorem foldl_samplesTo : ∀ c : StateCode, c ≤ 8#4 → (samplesTo c).foldl specWord 0#4 = c := by decide

/-- One dwell of the flash before its last goes to the next, whatever the sample, and shows that one's ped code (R91). -/
theorem step_sample_flash {d : Nat} (hd : d < 3) {s : State} {x : Sample} {rest : List Line} (hinv : RunInv s)
    (hstate : s.state = BitVec.ofNat 4 (5 + d)) (h : s.pending = .sample x :: rest) :
    ∃ t, step s = .next t ∧ RunInv t ∧ t.pending = rest ∧ t.state = BitVec.ofNat 4 (5 + (d + 1)) ∧
      t.ped = ([0x02, 0x00, 0x02, 0x00] : List PedCode).getD (d + 1) 0 := by
  obtain ⟨t, ht, htinv, htstate, htp⟩ := step_sample_runInv hinv h
  rw [hstate, specWord_flash hd] at htstate
  obtain ⟨-, hped⟩ := codes_of_coherent htinv.2
  rw [htstate, pedOf_flash (Nat.succ_lt_succ hd)] at hped
  exact ⟨t, ht, htinv, htp, htstate, hped⟩

/-- Settles O41: a run from reset for each state, and three steps of the flash. -/
theorem everyStateIsReachedAndTheFlashIsFixed : Obligations.EveryStateIsReachedAndTheFlashIsFixed := by
  refine ⟨fun c hc => ?reached, fun s x y z rest hinv hstate hpending => ?flash⟩
  case reached =>
    obtain ⟨-, -, -, -, hreset, -⟩ := resetStateMeetsTheInvariant
    obtain ⟨t, ht, htstate⟩ :=
      steps_samples (s := { State.reset with pending := (samplesTo c).map Line.sample }) hreset rfl
    exact ⟨samplesTo c, t, ht, htstate.trans (foldl_samplesTo c hc)⟩
  case flash =>
    obtain ⟨-, hped⟩ := codes_of_coherent hinv.2
    rw [hstate] at hped
    obtain ⟨t, ht, htinv, htp, htstate, htped⟩ := step_sample_flash (d := 0) (by decide) hinv hstate hpending
    obtain ⟨u, hu, huinv, hup, hustate, huped⟩ := step_sample_flash (d := 1) (by decide) htinv htstate htp
    obtain ⟨v, hv, -, -, hvstate, hvped⟩ := step_sample_flash (d := 2) (by decide) huinv hustate hup
    exact ⟨hped, t, u, v, ht, hu, hv, htstate, htped, hustate, huped, hvstate, hvped⟩

/-! The lamps (R92). -/

/-- (a) WALK is GoPed's alone. -/
theorem eq_goPed_of_walk : ∀ c : StateCode, c ≤ 8#4 → pedOf c = 0x08#4 → c = 4#4 := by decide

/-- (b) No state's road code lights green or yellow on both approaches. -/
theorem conflicting_roadOf {c : StateCode} (h : c ≤ 8#4) : conflicting (roadOf c) = false := by
  obtain ⟨hroad, -⟩ | ⟨hroad, -⟩ | ⟨hroad, -⟩ | ⟨hroad, -⟩ | ⟨hroad, -⟩ := roadOf_cases c h <;> rw [hroad] <;> rfl

/-- (c) From GoPed on both roads are red. -/
theorem roadOf_of_goPed_le : ∀ c : StateCode, c ≤ 8#4 → 4#4 ≤ c → roadOf c = 0x24#6 := by decide

/-- (d) A yellow state's words leave the yellow states, to a state that R81 or R83 names. -/
theorem specWord_wait : ∀ (c : StateCode) (x : Sample), c = 1#4 ∨ c = 3#4 →
    specWord c x = 0#4 ∨ specWord c x = 2#4 ∨ specWord c x = 4#4 := by decide

/-- (e) GoWest stays or turns yellow. -/
theorem specWord_goWest : ∀ x : Sample, specWord 0#4 x = 0#4 ∨ specWord 0#4 x = 1#4 := by decide

/-- (e) GoSouth stays or turns yellow. -/
theorem specWord_goSouth : ∀ x : Sample, specWord 2#4 x = 2#4 ∨ specWord 2#4 x = 3#4 := by decide

/-- Under the invariant the ports show a legal state's codes. -/
theorem codes_of_runInv {s : State} (h : RunInv s) : s.state ≤ 8#4 ∧ s.road = roadOf s.state ∧ s.ped = pedOf s.state := by
  obtain ⟨⟨-, hlegal, -⟩, hcoh⟩ := h
  exact ⟨hlegal, codes_of_coherent hcoh⟩

/-- SAMPLE_TRANSITION enters a state that the held state's row names, stable sample or not (R72, R124). -/
theorem exec_sampleTransition_state {s : State} (h : Held s) :
    ∃ t x, exec .sampleTransition s = .next t ∧ t.state = specWord s.state x :=
  ⟨_, _, exec_sampleTransition_of_held h, rfl⟩

/-- Settles O42: under the invariant the ports are a legal state's codes, and a transition's state is a word of its row. -/
theorem lampsAreSafe : Obligations.LampsAreSafe := by
  refine ⟨fun s hinv hwalk => ?walk, fun s hinv => ?conflict, fun s hinv hge => ?red, fun s hheld _ hs => ?yellow,
    fun s hheld _ hs => ?goWest, fun s hheld _ hs => ?goSouth⟩
  case walk =>
    obtain ⟨hlegal, hroad, hped⟩ := codes_of_runInv hinv
    have hstate := eq_goPed_of_walk s.state hlegal (hped.symm.trans hwalk)
    rw [hstate] at hroad
    exact ⟨hstate, hroad⟩
  case conflict =>
    obtain ⟨hlegal, hroad, -⟩ := codes_of_runInv hinv
    rw [hroad]
    exact conflicting_roadOf hlegal
  case red =>
    obtain ⟨hlegal, hroad, -⟩ := codes_of_runInv hinv
    rw [hroad]
    exact roadOf_of_goPed_le s.state hlegal hge
  all_goals obtain ⟨t, x, ht, hstate⟩ := exec_sampleTransition_state hheld
  case yellow => exact ⟨t, ht, hstate ▸ specWord_wait s.state x hs⟩
  case goWest =>
    rw [hs] at hstate
    exact ⟨t, ht, hstate ▸ specWord_goWest x⟩
  case goSouth =>
    rw [hs] at hstate
    exact ⟨t, ht, hstate ▸ specWord_goSouth x⟩

end Sys2Proof.States
end

section
/-! PROOFS. What stops a step: the three faults, each on its condition in the order of R103, and nothing else (O28). -/

open Sys2Proof Sys2Proof.Machine Sys2Proof.Claims Sys2Proof.Scope Sys2Proof.Invariant Sys2Proof.Memory Sys2Proof.Encoding
  Sys2Proof.Engine

namespace Sys2Proof.Exceptions

/-- What a step that stops with a fault must find, in the order of R103 (R101). -/
def FaultCause (s : State) (f : Fault) : Prop :=
  (f = .noReset ∧ s.init = false ∧ (atEdge s).rst = false) ∨
  (f = .illegalState s.state ∧ s.init = true ∧ 8#4 < s.state) ∨
  (f = .illegalCount s.cnt ∧ s.init = true ∧ s.state ≤ 8#4 ∧ (s.cnt = 0#10 ∨ 600#10 < s.cnt))

/-- A step of this state answers, or faults with a cause. -/
def AnswersOrFaults (s : State) : Prop :=
  (∃ t, step s = .next t) ∨ ∃ f, step s = .fault f ∧ FaultCause s f

theorem answers_of_fetch {i : Instr} {s t : State} (hf : fetch s = i) (h : exec i (atEdge s) = .next t) :
    AnswersOrFaults s :=
  .inl ⟨t, by rw [step, hf, h]⟩

/-- A reset edge answers whatever is held (R22, R74). -/
theorem answers_of_reset {s : State} (h : fetch s = .reset) : AnswersOrFaults s :=
  answers_of_fetch h (exec_reset_eq (atEdge s))

/-- With `rst` high a step runs RESET, or OUTPUT, which is no edge and leaves the port as it was (R60, R74; log entry 3). -/
theorem fetch_of_rst {s : State} (h : (atEdge s).rst = true) : fetch s = .reset ∨ fetch s = .output := by
  have hcode : fetchCode s = codeOfLine (nextLine s) (atEdge s) := rfl
  have hport : (atEdge s).rst = (present (nextLine s) s.takeLine).rst := rfl
  cases hl : nextLine s <;> rw [hl] at hcode hport
  case edge | reset => exact .inl ((fetch_controlSelect hcode).trans (if_pos h))
  case sample | word => exact absurd (hport.symm.trans h) Bool.false_ne_true
  case output => exact .inr (fetch_of_decode (by rw [hcode]; rfl))

/-- Before the first reset edge only RESET and OUTPUT run (R21, R121). -/
theorem answersOrFaults_before_reset {s : State} (hinit : s.init = false) : AnswersOrFaults s := by
  obtain ⟨-, -, hat, -⟩ := atEdge_keeps s
  by_cases hreset : fetch s = .reset
  · exact answers_of_reset hreset
  by_cases houtput : fetch s = .output
  · exact answers_of_fetch houtput (if_pos (hat.trans hinit))
  have hrst : (atEdge s).rst = false :=
    Bool.eq_false_iff.2 fun h => (fetch_of_rst h).elim hreset houtput
  exact .inr ⟨_, step_noReset hinit hreset houtput, .inl ⟨rfl, hinit, hrst⟩⟩

/-- On a held illegal code only RESET answers, and all else stops under that code: an edge with `rst` low by R75, OUTPUT by
R70. -/
theorem answersOrFaults_of_illegalState {s : State} (hinit : s.init = true) (hs : 8#4 < s.state) : AnswersOrFaults s := by
  obtain ⟨hstate, -, hat, -⟩ := atEdge_keeps s
  have stop (h : step s = .fault (.illegalState s.state)) : AnswersOrFaults s :=
    .inr ⟨_, h, .inr (.inl ⟨rfl, hinit, hs⟩)⟩
  cases hrst : (atEdge s).rst
  case false => exact stop (step_of_illegal hinit hs hrst)
  case true =>
    obtain hreset | houtput := fetch_of_rst hrst
    · exact answers_of_reset hreset
    · refine stop ?_
      rw [step, houtput, exec_output, if_neg (by simp [hat, hinit]), emit_of_illegal (hstate ▸ hs), hstate]

/-- With a legal code a step that runs neither RESET nor OUTPUT begins with the checks of R75. -/
theorem step_eq_checked {s : State} (hs : s.state ≤ 8#4) (hreset : fetch s ≠ .reset) (houtput : fetch s ≠ .output) :
    ∃ k, step s = checked (atEdge s) k := by
  rw [step]
  obtain hf | hf | ⟨x, hf⟩ := fetch_of_legal hs
  · simp only [controlInstrs, List.mem_cons, List.not_mem_nil, or_false] at hf
    obtain hf | hf | hf | hf | hf := hf
    case inl => exact absurd hf hreset
    case inr.inl => exact ⟨_, hf ▸ exec_hold _⟩
    case inr.inr.inl => exact ⟨_, hf ▸ exec_dwellCount _⟩
    case inr.inr.inr.inl => exact ⟨_, hf ▸ exec_sampleTransition _⟩
    case inr.inr.inr.inr => exact absurd hf houtput
  · exact ⟨_, hf ▸ exec_decodeState_of_legal hs _⟩
  · exact ⟨_, exec_of_decodeRom hf _⟩

/-- On a held illegal count with a legal code RESET and OUTPUT answer; every other row's checks stop it (R14, R75). -/
theorem answersOrFaults_of_illegalCount {s : State} (hinit : s.init = true) (hs : s.state ≤ 8#4)
    (hc : s.cnt = 0#10 ∨ 600#10 < s.cnt) : AnswersOrFaults s := by
  obtain ⟨hstate, hcnt, hat, -⟩ := atEdge_keeps s
  by_cases hreset : fetch s = .reset
  · exact answers_of_reset hreset
  by_cases houtput : fetch s = .output
  · exact answers_of_fetch houtput (exec_output_of_legal (hat.trans hinit) (hstate ▸ hs))
  obtain ⟨k, hk⟩ := step_eq_checked hs hreset houtput
  refine .inr ⟨_, ?_, .inr (.inr ⟨rfl, hinit, hs, hc⟩)⟩
  rw [hk, checked_illegalCount (hat.trans hinit) (hstate ▸ hs) (hcnt ▸ hc), hcnt]

/-- All that a step can come to, by the first of R103's checks that the held values fail. -/
theorem answersOrFaults (s : State) : AnswersOrFaults s := by
  by_cases hinit : s.init = true
  · by_cases hs : 8#4 < s.state
    · exact answersOrFaults_of_illegalState hinit hs
    have hlegal := BitVec.not_lt.1 hs
    by_cases hc : s.cnt = 0#10 ∨ 600#10 < s.cnt
    · exact answersOrFaults_of_illegalCount hinit hlegal hc
    have hheld : Held s := ⟨hinit, hlegal, by bv_omega, by bv_omega⟩
    exact .inl (step_answers hheld)
  · exact answersOrFaults_before_reset (Bool.eq_false_iff.2 hinit)

theorem faultCause_of_step {s : State} {f : Fault} (h : step s = .fault f) : FaultCause s f := by
  obtain ⟨t, ht⟩ | ⟨g, hg, hcause⟩ := answersOrFaults s
  · exact absurd (h.symm.trans ht) nofun
  · cases h.symm.trans hg
    exact hcause

theorem step_ne_refused (s : State) (r : Refusal) : step s ≠ .refused r := by
  obtain ⟨t, h⟩ | ⟨f, h, -⟩ := answersOrFaults s <;> rw [h] <;> nofun

/-- A run that begins with a fault runs no further line (R101). -/
theorem steps_of_fault {s : State} {f : Fault} (h : step s = .fault f) (n : Nat) : steps (n + 1) s = .fault f := by
  rw [steps, h, andThen]

/-- Settles O28: a step answers or faults with its cause, and a run keeps the fault. -/
theorem faultsAreTheThreeOfRuleOneHundredOne : Obligations.FaultsAreTheThreeOfRuleOneHundredOne :=
  ⟨fun _ _ => faultCause_of_step, step_ne_refused, fun _ _ n h => steps_of_fault h n⟩

end Sys2Proof.Exceptions
end

section
/-! PROOFS. The first dwell after a reset edge, an edge at which `sensors` is not stable, a dwell counted in clock edges, and
OUTPUT before the first reset edge (O30, O38, O40, O47). -/

open Sys2Proof Sys2Proof.Machine Sys2Proof.Claims Sys2Proof.Invariant Sys2Proof.Engine

namespace Sys2Proof.Hazards

/-- A sample that is not stable is the free draw of its edge (R124; log entry 8). -/
theorem captured_of_unstable {s : State} (h : s.sensors = none) : captured s = Config.freeSample s.edge := by
  simp [captured, h]

/-- Settles O30: the flag selects OUTPUT's branch of free values. -/
theorem outputBeforeResetIsFree : Obligations.OutputBeforeResetIsFree :=
  fun s hinit => (exec_output s).trans (if_pos hinit)

/-- Settles O40: the transition edge loads the word of what it captures, here the free draw. -/
theorem unstableSensorsGiveAFreeSample : Obligations.UnstableSensorsGiveAFreeSample := by
  intro s rest hheld hcnt hpending
  have hfree : captured (edgeState s false true none rest) = Config.freeSample (s.edge + 1) := captured_of_unstable rfl
  rw [step_edge_transition hheld hcnt hpending, hfree]

/-- Settles O38: the reset edge is an entry edge, from which the plain edges run inside the dwell of GoWest (R79), and the 600th
tick is that dwell's transition (R76). -/
theorem firstSampleIsAtTheSixHundredthTick : Obligations.FirstSampleIsAtTheSixHundredthTick := by
  intro s tick y x ls rest hplain hpending
  have hreset := step_edge_reset hpending
  obtain ⟨u, hu, hinv⟩ := step_resetEdge hpending
  cases hreset.symm.trans hu
  refine ⟨fun hticks => ?dwell, fun hticks => ?sample⟩
  case dwell =>
    obtain ⟨t, ht, hdwell, -⟩ := steps_inDwell hinv hplain (Nat.lt_succ_of_le hticks) rfl
    obtain ⟨hroad, hped⟩ := hdwell.lamps
    exact ⟨t, (steps_succ_of_next hreset _).trans ht, hdwell.state_eq, Nat.eq_sub_of_add_eq hdwell.cnt_add, hroad, hped⟩
  case sample =>
    obtain ⟨-, -, t, -, ht, -, hstate, hcnt, -⟩ := dwellViewAgreesWithClockView _ ls rest x hinv rfl hplain hticks rfl
    exact ⟨t, (steps_succ_of_next hreset _).trans ht, hstate, hcnt⟩

/-! A tick source phase-reset with the block (R122, R125). -/

theorem ticks_append (ls ls' : List Line) : ticks (ls ++ ls') = ticks ls + ticks ls' := by
  simp [ticks]

theorem tickTrain_succ (n k : Nat) (y : Option Sample) : tickTrain (n + 1) k y = tickTrain n k y ++ tickPeriod k y := by
  simp [tickTrain, List.replicate_succ']

theorem ticks_tickPeriod (k : Nat) (y : Option Sample) : ticks (tickPeriod k y) = 1 := by
  simp [ticks, tickPeriod, isTick]

/-- A train has one tick for each of its periods. -/
theorem ticks_tickTrain (n k : Nat) (y : Option Sample) : ticks (tickTrain n k y) = n := by
  induction n with
  | zero => rfl
  | succ n ih => rw [tickTrain_succ, ticks_append, ih, ticks_tickPeriod]

theorem length_tickTrain (n k : Nat) (y : Option Sample) : (tickTrain n k y).length = n * (k + 1) := by
  simp [tickTrain, tickPeriod]

theorem isPlainEdge_of_mem_tickTrain {n k : Nat} {y : Option Sample} {l : Line} (h : l ∈ tickTrain n k y) :
    isPlainEdge l = true := by
  obtain ⟨period, hperiod, hl⟩ := List.mem_flatten.1 h
  rw [List.eq_of_mem_replicate hperiod] at hl
  obtain hl | hl := List.mem_append.1 hl
  · rw [List.eq_of_mem_replicate hl, isPlainEdge, Bool.not_false]
  · rw [List.mem_singleton.1 hl, isPlainEdge, Bool.not_false]

/-- The last edge of a train is a tick. -/
theorem tickTrain_succ_eq_concat (n k : Nat) (y : Option Sample) :
    ∃ ls, tickTrain (n + 1) k y = ls ++ [.edge false true y] :=
  ⟨_, by rw [tickTrain_succ, tickPeriod, ← List.append_assoc]⟩

/-- D2: a millisecond is a whole number of clock edges. -/
theorem clkHz_div_thousand : Config.clkHz / 1000 = Config.extraEdgesPerTick + 1 := by
  rw [Config.clkHz, Nat.mul_div_cancel_left _ (by decide), Config.edgesPerTick]

/-- Settles O47: the train of a dwell is its plain edges with 599 ticks and a last tick, so R76 says where each of its
600 x CLK_HZ/1000 edges leads. -/
theorem dwellTakesClockRateEdges : Obligations.DwellTakesClockRateEdges := by
  intro s x rest hinv hcnt hpending
  obtain ⟨ls, htrain⟩ := tickTrain_succ_eq_concat 599 Config.extraEdgesPerTick (some x)
  have hplain : ∀ l ∈ ls, isPlainEdge l = true := fun l hl =>
    isPlainEdge_of_mem_tickTrain (htrain ▸ List.mem_append_left _ hl)
  have hticks : ticks ls = 599 := by
    have hall := ticks_tickTrain 600 Config.extraEdgesPerTick (some x)
    rw [htrain, ticks_append] at hall
    exact Nat.succ.inj hall
  have hlength : ls.length + 1 = 600 * (Config.clkHz / 1000) := by
    rw [clkHz_div_thousand, ← length_tickTrain 600 _ (some x), htrain, List.length_append, List.length_singleton]
  rw [htrain, List.append_assoc, List.singleton_append] at hpending
  obtain ⟨hwithin, -, t, -, ht, -, hstate, hfull, -, -, hrest, -⟩ :=
    dwellViewAgreesWithClockView s ls rest x hinv hcnt hplain hticks hpending
  obtain ⟨hroad, hped⟩ := codes_of_coherent hinv.2
  rw [← hlength, hroad, hped]
  exact ⟨fun m hm => hwithin m (Nat.le_of_lt_succ hm), t, ht, hstate, hfull, hrest⟩

end Sys2Proof.Hazards
end
